-- ==== Sys2Proof/Word.lean ====
section
/-! DEFINITION. The two word sizes of the core (00_scope.md R9, R12): every register but PC and every memory cell is a
byte, every address is a 16-bit word.  `+` and `-` on them are the wrapping `+8`, `-8`, `+16`, `-16` of R12. -/

namespace Sys2Proof

/-- `u8` of R12. -/
abbrev Byte := BitVec 8

/-- `u16` of R12. -/
abbrev Word := BitVec 16

end Sys2Proof
end

