-- ==== Sys2Proof/Config.lean ====
section
/-! DEFINITION. What an instance of the core fixes: the configuration parameters of 00_scope.md R10, the fixed
parameters of R9, and the one value the spec leaves free (93_implementation_defined.md I11). -/

namespace Sys2Proof

/-- `OPCODE_PROFILE` (00_scope.md R10, decision D1): which opcode bytes have a descriptor. -/
inductive Profile where
  | subset
  | full
  deriving DecidableEq, Repr

/-- `DECIMAL_MODE` (00_scope.md R10, decision D11): whether ADC and SBC honour the D flag. -/
inductive DecimalMode where
  | ignored
  | nmos
  deriving DecidableEq, Repr

/-- The two configuration parameters of 00_scope.md R10, which the spec has a model take as arguments. -/
structure Config where
  profile : Profile
  decimalMode : DecimalMode
  deriving DecidableEq, Repr

/-- The default value of each parameter (00_scope.md R10). -/
def Config.default : Config := { profile := .subset, decimalMode := .ignored }

/-- `MEM_SIZE` (00_scope.md R9). -/
def Config.memSize : Nat := 65536

/-- `LOAD_BASE` (00_scope.md R9). -/
def Config.loadBase : Word := 0x8000#16

/-- `RESET_VECTOR` (00_scope.md R9), the address of its low byte. -/
def Config.resetVector : Word := 0xFFFC#16

/-- `NMI_VECTOR` (00_scope.md R9). -/
def Config.nmiVector : Word := 0xFFFA#16

/-- `IRQ_VECTOR` (00_scope.md R9). -/
def Config.irqVector : Word := 0xFFFE#16

/-- `STACK_BASE` (00_scope.md R9). -/
def Config.stackBase : Word := 0x0100#16

/-- `HALT_OPCODE` (00_scope.md R9). -/
def Config.haltOpcode : Byte := 0x00#8

/-- The longest image `load` accepts (70_reset_and_hazards.md R344, decision D21). -/
def Config.maxImage : Nat := 0x8000

/-- The "base cycle count" of an opcode's descriptor (30_encoding.md R105).  A FREE VALUE (log 7): the source gives no
number and no rule reads it (93_implementation_defined.md I11: `any value`), so it has no body. -/
opaque Config.baseCycleCount : Byte → Nat

end Sys2Proof
end

