-- ==== Sys2Proof/Syntax/Operand.lean ====
section
/-! DEFINITION. The parts of an instruction's syntax that are not instructions themselves: the addressing modes of
30_encoding.md R94, an operand as its mode and the bytes that follow the opcode (R91), and the 56 mnemonics of R111. -/

namespace Sys2Proof

/-- The addressing modes (30_encoding.md R94): the source's ten, and ACC, REL and IND of profile FULL. -/
inductive Mode where
  | imp | imm | zp | zpx | zpy | abs | absx | absy | indx | indy
  | acc | rel | ind
  deriving DecidableEq, Repr

/-- An operand: the addressing mode with the operand bytes of the format (30_encoding.md R91), as `lo8` and `hi8`
joined where there are two. -/
inductive Operand where
  | imp
  | acc
  | imm (imm8 : Byte)
  | zp (zp8 : Byte)
  | zpx (zp8 : Byte)
  | zpy (zp8 : Byte)
  | abs (addr : Word)
  | absx (addr : Word)
  | absy (addr : Word)
  | indx (zp8 : Byte)
  | indy (zp8 : Byte)
  | rel (off8 : Byte)
  | ind (addr : Word)
  deriving DecidableEq, Repr

/-- The mnemonics of 30_encoding.md R111. -/
inductive Mnemonic where
  | brk
  | lda | ldx | ldy | sta | stx | sty
  | tax | tay | txa | tya | tsx | txs
  | inx | iny | dex | dey | inc | dec
  | adc | sbc | and | ora | eor | cmp | cpx | cpy | bit
  | asl | lsr | rol | ror
  | jmp | jsr | rts | bpl | bmi | bvc | bvs | bcc | bcs | bne | beq
  | pha | pla | php | plp | clc | sec | cli | sei | cld | sed | clv | nop | rti
  deriving DecidableEq, Repr

end Sys2Proof
end

