-- ==== Sys2Proof/Syntax.lean ====
section
/-! DEFINITION. The instructions: one constructor for each of the 151 rows of spec/opcode_table.json (30_encoding.md R111).
A constructor carries the operand bytes of its format (R91); a 16-bit operand is `hi8 ++ lo8`. -/

namespace Sys2Proof

/-- One instruction: a row of the opcode table with its operand bytes.  The names are the mnemonic and the mode. -/
inductive Instr where
  -- BRK, R140
  | brk
  -- LDA, R160
  | ldaImm (imm8 : Byte)
  | ldaZp (zp8 : Byte)
  | ldaZpx (zp8 : Byte)
  | ldaAbs (addr : Word)
  | ldaAbsx (addr : Word)
  | ldaAbsy (addr : Word)
  | ldaIndx (zp8 : Byte)
  | ldaIndy (zp8 : Byte)
  -- LDX, R161
  | ldxImm (imm8 : Byte)
  | ldxZp (zp8 : Byte)
  | ldxZpy (zp8 : Byte)
  | ldxAbs (addr : Word)
  | ldxAbsy (addr : Word)
  -- LDY, R162
  | ldyImm (imm8 : Byte)
  | ldyZp (zp8 : Byte)
  | ldyZpx (zp8 : Byte)
  | ldyAbs (addr : Word)
  | ldyAbsx (addr : Word)
  -- STA, R163
  | staZp (zp8 : Byte)
  | staZpx (zp8 : Byte)
  | staAbs (addr : Word)
  | staAbsx (addr : Word)
  | staAbsy (addr : Word)
  | staIndx (zp8 : Byte)
  | staIndy (zp8 : Byte)
  -- STX, R164
  | stxZp (zp8 : Byte)
  | stxZpy (zp8 : Byte)
  | stxAbs (addr : Word)
  -- STY, R165
  | styZp (zp8 : Byte)
  | styZpx (zp8 : Byte)
  | styAbs (addr : Word)
  -- TAX, R180
  | tax
  -- TAY, R181
  | tay
  -- TXA, R182
  | txa
  -- TYA, R183
  | tya
  -- TSX, R184
  | tsx
  -- TXS, R185
  | txs
  -- INX, R190
  | inx
  -- INY, R191
  | iny
  -- DEX, R192
  | dex
  -- DEY, R193
  | dey
  -- INC, R194
  | incZp (zp8 : Byte)
  | incZpx (zp8 : Byte)
  | incAbs (addr : Word)
  | incAbsx (addr : Word)
  -- DEC, R195
  | decZp (zp8 : Byte)
  | decZpx (zp8 : Byte)
  | decAbs (addr : Word)
  | decAbsx (addr : Word)
  -- ADC, R200
  | adcImm (imm8 : Byte)
  | adcZp (zp8 : Byte)
  | adcZpx (zp8 : Byte)
  | adcAbs (addr : Word)
  | adcAbsx (addr : Word)
  | adcAbsy (addr : Word)
  | adcIndx (zp8 : Byte)
  | adcIndy (zp8 : Byte)
  -- SBC, R202
  | sbcImm (imm8 : Byte)
  | sbcZp (zp8 : Byte)
  | sbcZpx (zp8 : Byte)
  | sbcAbs (addr : Word)
  | sbcAbsx (addr : Word)
  | sbcAbsy (addr : Word)
  | sbcIndx (zp8 : Byte)
  | sbcIndy (zp8 : Byte)
  -- AND, R204
  | andImm (imm8 : Byte)
  | andZp (zp8 : Byte)
  | andZpx (zp8 : Byte)
  | andAbs (addr : Word)
  | andAbsx (addr : Word)
  | andAbsy (addr : Word)
  | andIndx (zp8 : Byte)
  | andIndy (zp8 : Byte)
  -- ORA, R205
  | oraImm (imm8 : Byte)
  | oraZp (zp8 : Byte)
  | oraZpx (zp8 : Byte)
  | oraAbs (addr : Word)
  | oraAbsx (addr : Word)
  | oraAbsy (addr : Word)
  | oraIndx (zp8 : Byte)
  | oraIndy (zp8 : Byte)
  -- EOR, R206
  | eorImm (imm8 : Byte)
  | eorZp (zp8 : Byte)
  | eorZpx (zp8 : Byte)
  | eorAbs (addr : Word)
  | eorAbsx (addr : Word)
  | eorAbsy (addr : Word)
  | eorIndx (zp8 : Byte)
  | eorIndy (zp8 : Byte)
  -- CMP, R207
  | cmpImm (imm8 : Byte)
  | cmpZp (zp8 : Byte)
  | cmpZpx (zp8 : Byte)
  | cmpAbs (addr : Word)
  | cmpAbsx (addr : Word)
  | cmpAbsy (addr : Word)
  | cmpIndx (zp8 : Byte)
  | cmpIndy (zp8 : Byte)
  -- CPX, R208
  | cpxImm (imm8 : Byte)
  | cpxZp (zp8 : Byte)
  | cpxAbs (addr : Word)
  -- CPY, R209
  | cpyImm (imm8 : Byte)
  | cpyZp (zp8 : Byte)
  | cpyAbs (addr : Word)
  -- BIT, R210
  | bitZp (zp8 : Byte)
  | bitAbs (addr : Word)
  -- ASL, R230
  | aslAcc
  | aslZp (zp8 : Byte)
  | aslZpx (zp8 : Byte)
  | aslAbs (addr : Word)
  | aslAbsx (addr : Word)
  -- LSR, R231
  | lsrAcc
  | lsrZp (zp8 : Byte)
  | lsrZpx (zp8 : Byte)
  | lsrAbs (addr : Word)
  | lsrAbsx (addr : Word)
  -- ROL, R232
  | rolAcc
  | rolZp (zp8 : Byte)
  | rolZpx (zp8 : Byte)
  | rolAbs (addr : Word)
  | rolAbsx (addr : Word)
  -- ROR, R233
  | rorAcc
  | rorZp (zp8 : Byte)
  | rorZpx (zp8 : Byte)
  | rorAbs (addr : Word)
  | rorAbsx (addr : Word)
  -- JMP, R240
  | jmpAbs (addr : Word)
  | jmpInd (addr : Word)
  -- JSR, R241
  | jsr (addr : Word)
  -- RTS, R242
  | rts
  -- BPL, R244
  | bpl (off8 : Byte)
  -- BMI, R245
  | bmi (off8 : Byte)
  -- BVC, R246
  | bvc (off8 : Byte)
  -- BVS, R247
  | bvs (off8 : Byte)
  -- BCC, R248
  | bcc (off8 : Byte)
  -- BCS, R249
  | bcs (off8 : Byte)
  -- BNE, R250
  | bne (off8 : Byte)
  -- BEQ, R251
  | beq (off8 : Byte)
  -- PHA, R260
  | pha
  -- PLA, R261
  | pla
  -- PHP, R262
  | php
  -- PLP, R263
  | plp
  -- CLC, R264
  | clc
  -- SEC, R265
  | sec
  -- CLI, R266
  | cli
  -- SEI, R267
  | sei
  -- CLD, R268
  | cld
  -- SED, R269
  | sed
  -- CLV, R270
  | clv
  -- NOP, R271
  | nop
  -- RTI, R272
  | rti
  deriving DecidableEq, Repr

/-- The mnemonic of an instruction (30_encoding.md R111). -/
def Instr.mnemonic : Instr → Mnemonic
  | .brk => .brk
  | .ldaImm _ | .ldaZp _ | .ldaZpx _ | .ldaAbs _ | .ldaAbsx _ | .ldaAbsy _ | .ldaIndx _ | .ldaIndy _ => .lda
  | .ldxImm _ | .ldxZp _ | .ldxZpy _ | .ldxAbs _ | .ldxAbsy _ => .ldx
  | .ldyImm _ | .ldyZp _ | .ldyZpx _ | .ldyAbs _ | .ldyAbsx _ => .ldy
  | .staZp _ | .staZpx _ | .staAbs _ | .staAbsx _ | .staAbsy _ | .staIndx _ | .staIndy _ => .sta
  | .stxZp _ | .stxZpy _ | .stxAbs _ => .stx
  | .styZp _ | .styZpx _ | .styAbs _ => .sty
  | .tax => .tax
  | .tay => .tay
  | .txa => .txa
  | .tya => .tya
  | .tsx => .tsx
  | .txs => .txs
  | .inx => .inx
  | .iny => .iny
  | .dex => .dex
  | .dey => .dey
  | .incZp _ | .incZpx _ | .incAbs _ | .incAbsx _ => .inc
  | .decZp _ | .decZpx _ | .decAbs _ | .decAbsx _ => .dec
  | .adcImm _ | .adcZp _ | .adcZpx _ | .adcAbs _ | .adcAbsx _ | .adcAbsy _ | .adcIndx _ | .adcIndy _ => .adc
  | .sbcImm _ | .sbcZp _ | .sbcZpx _ | .sbcAbs _ | .sbcAbsx _ | .sbcAbsy _ | .sbcIndx _ | .sbcIndy _ => .sbc
  | .andImm _ | .andZp _ | .andZpx _ | .andAbs _ | .andAbsx _ | .andAbsy _ | .andIndx _ | .andIndy _ => .and
  | .oraImm _ | .oraZp _ | .oraZpx _ | .oraAbs _ | .oraAbsx _ | .oraAbsy _ | .oraIndx _ | .oraIndy _ => .ora
  | .eorImm _ | .eorZp _ | .eorZpx _ | .eorAbs _ | .eorAbsx _ | .eorAbsy _ | .eorIndx _ | .eorIndy _ => .eor
  | .cmpImm _ | .cmpZp _ | .cmpZpx _ | .cmpAbs _ | .cmpAbsx _ | .cmpAbsy _ | .cmpIndx _ | .cmpIndy _ => .cmp
  | .cpxImm _ | .cpxZp _ | .cpxAbs _ => .cpx
  | .cpyImm _ | .cpyZp _ | .cpyAbs _ => .cpy
  | .bitZp _ | .bitAbs _ => .bit
  | .aslAcc | .aslZp _ | .aslZpx _ | .aslAbs _ | .aslAbsx _ => .asl
  | .lsrAcc | .lsrZp _ | .lsrZpx _ | .lsrAbs _ | .lsrAbsx _ => .lsr
  | .rolAcc | .rolZp _ | .rolZpx _ | .rolAbs _ | .rolAbsx _ => .rol
  | .rorAcc | .rorZp _ | .rorZpx _ | .rorAbs _ | .rorAbsx _ => .ror
  | .jmpAbs _ | .jmpInd _ => .jmp
  | .jsr _ => .jsr
  | .rts => .rts
  | .bpl _ => .bpl
  | .bmi _ => .bmi
  | .bvc _ => .bvc
  | .bvs _ => .bvs
  | .bcc _ => .bcc
  | .bcs _ => .bcs
  | .bne _ => .bne
  | .beq _ => .beq
  | .pha => .pha
  | .pla => .pla
  | .php => .php
  | .plp => .plp
  | .clc => .clc
  | .sec => .sec
  | .cli => .cli
  | .sei => .sei
  | .cld => .cld
  | .sed => .sed
  | .clv => .clv
  | .nop => .nop
  | .rti => .rti

end Sys2Proof
end

