-- ==== Sys2Proof/WellFormed.lean ====
section
/-! DEFINITION. When an instruction is well formed.  The fields of `Instr` are bytes and words and "every operand byte value
0x00 to 0xFF is legal in every operand field" (30_encoding.md R92), so the one check is that the instruction exists under
the profile (30_encoding.md R108). -/

namespace Sys2Proof

/-- The mnemonics of the demonstrated subset (00_scope.md R3, 30_encoding.md R109). -/
def Mnemonic.inSubset (m : Mnemonic) : Bool :=
  m == .brk || m == .lda || m == .tax || m == .inx

/-- `i` has a descriptor under profile `pr` (30_encoding.md R108): every row does under FULL; under SUBSET exactly BRK, the
eight modes of LDA, TAX and INX. -/
def Instr.wf (pr : Profile) (i : Instr) : Bool :=
  match pr with
  | .full => true
  | .subset => i.mnemonic.inSubset

end Sys2Proof
end

