-- ==== Sys2Proof/Decode.lean ====
section
/-! DEFINITION. The opcode table, the decoder and the encoder (30_encoding.md).  The decoder follows the opcode map of R111
and R109; the encoder takes its opcode bytes from the `Encoding` lines of the instruction rules, so that the two are
independent readings of the spec. -/

namespace Sys2Proof

/-! ## Bytes and words (00_scope.md R11, R12; 20_memory.md R66) -/

/-- `hi ++ lo` of 00_scope.md R11: the 16-bit word with `hi` in its high part. -/
def mkWord (hi lo : Byte) : Word := hi ++ lo

/-- `w[7:0]`. -/
def loByte (w : Word) : Byte := w.extractLsb' 0 8

/-- `w[15:8]`. -/
def hiByte (w : Word) : Byte := w.extractLsb' 8 8

/-- `zext_16` of 00_scope.md R12. -/
def zext16 (b : Byte) : Word := b.setWidth 16

/-- `sext_16` of 00_scope.md R12. -/
def sext16 (b : Byte) : Word := b.signExtend 16

/-! ## Modes and operands -/

/-- `operandLen(mode)` (30_encoding.md R95). -/
def Mode.operandLen : Mode → Nat
  | .imp | .acc => 0
  | .imm | .zp | .zpx | .zpy | .indx | .indy | .rel => 1
  | .abs | .absx | .absy | .ind => 2

/-- The addressing mode of an operand. -/
def Operand.mode : Operand → Mode
  | .imp => .imp
  | .acc => .acc
  | .imm _ => .imm
  | .zp _ => .zp
  | .zpx _ => .zpx
  | .zpy _ => .zpy
  | .abs _ => .abs
  | .absx _ => .absx
  | .absy _ => .absy
  | .indx _ => .indx
  | .indy _ => .indy
  | .rel _ => .rel
  | .ind _ => .ind

/-- The operand bytes in memory order, the low byte of a 16-bit operand first (30_encoding.md R91, 20_memory.md R66). -/
def Operand.bytes : Operand → List Byte
  | .imp | .acc => []
  | .imm b | .zp b | .zpx b | .zpy b | .indx b | .indy b | .rel b => [b]
  | .abs w | .absx w | .absy w | .ind w => [loByte w, hiByte w]

/-- The operand of an instruction: its addressing mode with the bytes it carries. -/
def Instr.operand : Instr → Operand
  | .aslAcc | .lsrAcc | .rolAcc | .rorAcc => .acc
  | .ldaImm v | .ldxImm v | .ldyImm v | .adcImm v | .sbcImm v | .andImm v | .oraImm v | .eorImm v | .cmpImm v |
    .cpxImm v | .cpyImm v => .imm v
  | .ldaZp v | .ldxZp v | .ldyZp v | .staZp v | .stxZp v | .styZp v | .incZp v | .decZp v | .adcZp v | .sbcZp v |
    .andZp v | .oraZp v | .eorZp v | .cmpZp v | .cpxZp v | .cpyZp v | .bitZp v | .aslZp v | .lsrZp v | .rolZp v |
    .rorZp v => .zp v
  | .ldaZpx v | .ldyZpx v | .staZpx v | .styZpx v | .incZpx v | .decZpx v | .adcZpx v | .sbcZpx v | .andZpx v |
    .oraZpx v | .eorZpx v | .cmpZpx v | .aslZpx v | .lsrZpx v | .rolZpx v | .rorZpx v => .zpx v
  | .ldxZpy v | .stxZpy v => .zpy v
  | .ldaAbs v | .ldxAbs v | .ldyAbs v | .staAbs v | .stxAbs v | .styAbs v | .incAbs v | .decAbs v | .adcAbs v |
    .sbcAbs v | .andAbs v | .oraAbs v | .eorAbs v | .cmpAbs v | .cpxAbs v | .cpyAbs v | .bitAbs v | .aslAbs v |
    .lsrAbs v | .rolAbs v | .rorAbs v | .jmpAbs v | .jsr v => .abs v
  | .ldaAbsx v | .ldyAbsx v | .staAbsx v | .incAbsx v | .decAbsx v | .adcAbsx v | .sbcAbsx v | .andAbsx v |
    .oraAbsx v | .eorAbsx v | .cmpAbsx v | .aslAbsx v | .lsrAbsx v | .rolAbsx v | .rorAbsx v => .absx v
  | .ldaAbsy v | .ldxAbsy v | .staAbsy v | .adcAbsy v | .sbcAbsy v | .andAbsy v | .oraAbsy v | .eorAbsy v |
    .cmpAbsy v => .absy v
  | .ldaIndx v | .staIndx v | .adcIndx v | .sbcIndx v | .andIndx v | .oraIndx v | .eorIndx v | .cmpIndx v => .indx v
  | .ldaIndy v | .staIndy v | .adcIndy v | .sbcIndy v | .andIndy v | .oraIndy v | .eorIndy v | .cmpIndy v => .indy v
  | .brk | .tax | .tay | .txa | .tya | .tsx | .txs | .inx | .iny | .dex | .dey | .rts | .pha | .pla | .php | .plp |
    .clc | .sec | .cli | .sei | .cld | .sed | .clv | .nop | .rti => .imp
  | .jmpInd v => .ind v
  | .bpl v | .bmi v | .bvc v | .bvs v | .bcc v | .bcs v | .bne v | .beq v => .rel v

/-- The addressing mode of an instruction. -/
def Instr.mode (i : Instr) : Mode := i.operand.mode

/-! ## The opcode table (30_encoding.md R105 to R111) -/

/-- A cell of the opcode map: no descriptor, or the instruction it stands for, waiting for no, one or two operand bytes. -/
inductive Template where
  | unimplemented
  | implied (i : Instr)
  | byte (mk : Byte → Instr)
  | word (mk : Word → Instr)

/-- Row 0x of the opcode map. -/
def opcodeRow0 : List Template :=
  [.implied .brk, .byte .oraIndx, .unimplemented, .unimplemented,
   .unimplemented, .byte .oraZp, .byte .aslZp, .unimplemented,
   .implied .php, .byte .oraImm, .implied .aslAcc, .unimplemented,
   .unimplemented, .word .oraAbs, .word .aslAbs, .unimplemented]

/-- Row 1x of the opcode map. -/
def opcodeRow1 : List Template :=
  [.byte .bpl, .byte .oraIndy, .unimplemented, .unimplemented,
   .unimplemented, .byte .oraZpx, .byte .aslZpx, .unimplemented,
   .implied .clc, .word .oraAbsy, .unimplemented, .unimplemented,
   .unimplemented, .word .oraAbsx, .word .aslAbsx, .unimplemented]

/-- Row 2x of the opcode map. -/
def opcodeRow2 : List Template :=
  [.word .jsr, .byte .andIndx, .unimplemented, .unimplemented,
   .byte .bitZp, .byte .andZp, .byte .rolZp, .unimplemented,
   .implied .plp, .byte .andImm, .implied .rolAcc, .unimplemented,
   .word .bitAbs, .word .andAbs, .word .rolAbs, .unimplemented]

/-- Row 3x of the opcode map. -/
def opcodeRow3 : List Template :=
  [.byte .bmi, .byte .andIndy, .unimplemented, .unimplemented,
   .unimplemented, .byte .andZpx, .byte .rolZpx, .unimplemented,
   .implied .sec, .word .andAbsy, .unimplemented, .unimplemented,
   .unimplemented, .word .andAbsx, .word .rolAbsx, .unimplemented]

/-- Row 4x of the opcode map. -/
def opcodeRow4 : List Template :=
  [.implied .rti, .byte .eorIndx, .unimplemented, .unimplemented,
   .unimplemented, .byte .eorZp, .byte .lsrZp, .unimplemented,
   .implied .pha, .byte .eorImm, .implied .lsrAcc, .unimplemented,
   .word .jmpAbs, .word .eorAbs, .word .lsrAbs, .unimplemented]

/-- Row 5x of the opcode map. -/
def opcodeRow5 : List Template :=
  [.byte .bvc, .byte .eorIndy, .unimplemented, .unimplemented,
   .unimplemented, .byte .eorZpx, .byte .lsrZpx, .unimplemented,
   .implied .cli, .word .eorAbsy, .unimplemented, .unimplemented,
   .unimplemented, .word .eorAbsx, .word .lsrAbsx, .unimplemented]

/-- Row 6x of the opcode map. -/
def opcodeRow6 : List Template :=
  [.implied .rts, .byte .adcIndx, .unimplemented, .unimplemented,
   .unimplemented, .byte .adcZp, .byte .rorZp, .unimplemented,
   .implied .pla, .byte .adcImm, .implied .rorAcc, .unimplemented,
   .word .jmpInd, .word .adcAbs, .word .rorAbs, .unimplemented]

/-- Row 7x of the opcode map. -/
def opcodeRow7 : List Template :=
  [.byte .bvs, .byte .adcIndy, .unimplemented, .unimplemented,
   .unimplemented, .byte .adcZpx, .byte .rorZpx, .unimplemented,
   .implied .sei, .word .adcAbsy, .unimplemented, .unimplemented,
   .unimplemented, .word .adcAbsx, .word .rorAbsx, .unimplemented]

/-- Row 8x of the opcode map. -/
def opcodeRow8 : List Template :=
  [.unimplemented, .byte .staIndx, .unimplemented, .unimplemented,
   .byte .styZp, .byte .staZp, .byte .stxZp, .unimplemented,
   .implied .dey, .unimplemented, .implied .txa, .unimplemented,
   .word .styAbs, .word .staAbs, .word .stxAbs, .unimplemented]

/-- Row 9x of the opcode map. -/
def opcodeRow9 : List Template :=
  [.byte .bcc, .byte .staIndy, .unimplemented, .unimplemented,
   .byte .styZpx, .byte .staZpx, .byte .stxZpy, .unimplemented,
   .implied .tya, .word .staAbsy, .implied .txs, .unimplemented,
   .unimplemented, .word .staAbsx, .unimplemented, .unimplemented]

/-- Row Ax of the opcode map. -/
def opcodeRowA : List Template :=
  [.byte .ldyImm, .byte .ldaIndx, .byte .ldxImm, .unimplemented,
   .byte .ldyZp, .byte .ldaZp, .byte .ldxZp, .unimplemented,
   .implied .tay, .byte .ldaImm, .implied .tax, .unimplemented,
   .word .ldyAbs, .word .ldaAbs, .word .ldxAbs, .unimplemented]

/-- Row Bx of the opcode map. -/
def opcodeRowB : List Template :=
  [.byte .bcs, .byte .ldaIndy, .unimplemented, .unimplemented,
   .byte .ldyZpx, .byte .ldaZpx, .byte .ldxZpy, .unimplemented,
   .implied .clv, .word .ldaAbsy, .implied .tsx, .unimplemented,
   .word .ldyAbsx, .word .ldaAbsx, .word .ldxAbsy, .unimplemented]

/-- Row Cx of the opcode map. -/
def opcodeRowC : List Template :=
  [.byte .cpyImm, .byte .cmpIndx, .unimplemented, .unimplemented,
   .byte .cpyZp, .byte .cmpZp, .byte .decZp, .unimplemented,
   .implied .iny, .byte .cmpImm, .implied .dex, .unimplemented,
   .word .cpyAbs, .word .cmpAbs, .word .decAbs, .unimplemented]

/-- Row Dx of the opcode map. -/
def opcodeRowD : List Template :=
  [.byte .bne, .byte .cmpIndy, .unimplemented, .unimplemented,
   .unimplemented, .byte .cmpZpx, .byte .decZpx, .unimplemented,
   .implied .cld, .word .cmpAbsy, .unimplemented, .unimplemented,
   .unimplemented, .word .cmpAbsx, .word .decAbsx, .unimplemented]

/-- Row Ex of the opcode map. -/
def opcodeRowE : List Template :=
  [.byte .cpxImm, .byte .sbcIndx, .unimplemented, .unimplemented,
   .byte .cpxZp, .byte .sbcZp, .byte .incZp, .unimplemented,
   .implied .inx, .byte .sbcImm, .implied .nop, .unimplemented,
   .word .cpxAbs, .word .sbcAbs, .word .incAbs, .unimplemented]

/-- Row Fx of the opcode map. -/
def opcodeRowF : List Template :=
  [.byte .beq, .byte .sbcIndy, .unimplemented, .unimplemented,
   .unimplemented, .byte .sbcZpx, .byte .incZpx, .unimplemented,
   .implied .sed, .word .sbcAbsy, .unimplemented, .unimplemented,
   .unimplemented, .word .sbcAbsx, .word .incAbsx, .unimplemented]

/-- The FULL opcode map (30_encoding.md R111): row = high nibble, column = low nibble. -/
def opcodeMap : List (List Template) :=
  [opcodeRow0, opcodeRow1, opcodeRow2, opcodeRow3, opcodeRow4, opcodeRow5, opcodeRow6, opcodeRow7,
   opcodeRow8, opcodeRow9, opcodeRowA, opcodeRowB, opcodeRowC, opcodeRowD, opcodeRowE, opcodeRowF]

/-- The cell of an opcode byte in the FULL map. -/
def templateAt (opcode : Byte) : Template :=
  (opcodeMap.getD (opcode.toNat / 16) []).getD (opcode.toNat % 16) .unimplemented

/-- The eleven bytes of the SUBSET map (30_encoding.md R109). -/
def subsetOpcodes : List Byte :=
  [0x00#8, 0xA9#8, 0xA5#8, 0xB5#8, 0xAD#8, 0xBD#8, 0xB9#8, 0xA1#8, 0xB1#8, 0xAA#8, 0xE8#8]

/-- `table(b)` under a profile (30_encoding.md R107, R108): total over the 256 byte values. -/
def lookup (pr : Profile) (opcode : Byte) : Template :=
  match pr with
  | .full => templateAt opcode
  | .subset => if opcode ∈ subsetOpcodes then templateAt opcode else .unimplemented

/-- The instruction of a table cell, its operand bytes taken as zeros; used only for what does not depend on them. -/
def Template.sample : Template → Option Instr
  | .unimplemented => none
  | .implied i => some i
  | .byte mk => some (mk 0#8)
  | .word mk => some (mk 0#16)

/-- The Opcode Descriptor of 30_encoding.md R105; the operation handler is `Machine.exec`'s arm of the instruction. -/
structure Descriptor where
  mnemonic : Mnemonic
  mode : Mode
  length : Nat
  baseCycles : Nat
  deriving DecidableEq, Repr

/-- The descriptor of an opcode byte under a profile (30_encoding.md R105 to R108). -/
def descriptor (pr : Profile) (opcode : Byte) : Option Descriptor :=
  (lookup pr opcode).sample.map fun i =>
    { mnemonic := i.mnemonic, mode := i.mode, length := 1 + i.mode.operandLen,
      baseCycles := Config.baseCycleCount opcode }

/-! ## The decoder -/

/-- Why a list of bytes is no instruction. -/
inductive DecodeError where
  /-- There is no opcode byte. -/
  | noBytes
  /-- The byte's descriptor is `Unimplemented` (30_encoding.md R107, R110). -/
  | unimplementedOpcode (opcode : Byte)
  /-- The list ends before the opcode's operand bytes do. -/
  | truncated (opcode : Byte)
  deriving DecidableEq, Repr

/-- The decoder, total on any bytes: the instruction at the head of the list and the bytes after it (30_encoding.md R90 to
R92). -/
def decode (pr : Profile) : List Byte → Except DecodeError (Instr × List Byte)
  | [] => .error .noBytes
  | opcode :: rest =>
    match lookup pr opcode with
    | .unimplemented => .error (.unimplementedOpcode opcode)
    | .implied i => .ok (i, rest)
    | .byte mk =>
      match rest with
      | b :: tail => .ok (mk b, tail)
      | [] => .error (.truncated opcode)
    | .word mk =>
      match rest with
      | lo :: hi :: tail => .ok (mk (mkWord hi lo), tail)
      | [] | [_] => .error (.truncated opcode)

/-- The three bytes that hold an instruction word of `nbits` bits, the least significant byte first, which is the byte at
the lowest address (30_encoding.md R91); every bit above `nbits` is 0. -/
def tableBytes (nbits w : Nat) : List Byte :=
  [BitVec.ofNat 8 (w % 2 ^ nbits), BitVec.ofNat 8 (w % 2 ^ nbits / 2 ^ 8), BitVec.ofNat 8 (w % 2 ^ nbits / 2 ^ 16)]

/-- The instruction the decoder reads from a word of the opcode table, under the profile that has every row (FULL). -/
def decodeTableWord (nbits w : Nat) : Option Instr :=
  match decode .full (tableBytes nbits w) with
  | .ok (i, _) => some i
  | .error _ => none

/-! ## The encoder -/

/-- The opcode byte of an instruction, from the `Encoding` line of its own rule (R140, R160 to R165, R180 to R185, R190 to
R195, R200 to R210, R230 to R233, R240 to R251, R260 to R272). -/
def Instr.opcode : Instr → Byte
  | .brk => 0x00#8
  | .ldaImm _ => 0xA9#8
  | .ldaZp _ => 0xA5#8
  | .ldaZpx _ => 0xB5#8
  | .ldaAbs _ => 0xAD#8
  | .ldaAbsx _ => 0xBD#8
  | .ldaAbsy _ => 0xB9#8
  | .ldaIndx _ => 0xA1#8
  | .ldaIndy _ => 0xB1#8
  | .ldxImm _ => 0xA2#8
  | .ldxZp _ => 0xA6#8
  | .ldxZpy _ => 0xB6#8
  | .ldxAbs _ => 0xAE#8
  | .ldxAbsy _ => 0xBE#8
  | .ldyImm _ => 0xA0#8
  | .ldyZp _ => 0xA4#8
  | .ldyZpx _ => 0xB4#8
  | .ldyAbs _ => 0xAC#8
  | .ldyAbsx _ => 0xBC#8
  | .staZp _ => 0x85#8
  | .staZpx _ => 0x95#8
  | .staAbs _ => 0x8D#8
  | .staAbsx _ => 0x9D#8
  | .staAbsy _ => 0x99#8
  | .staIndx _ => 0x81#8
  | .staIndy _ => 0x91#8
  | .stxZp _ => 0x86#8
  | .stxZpy _ => 0x96#8
  | .stxAbs _ => 0x8E#8
  | .styZp _ => 0x84#8
  | .styZpx _ => 0x94#8
  | .styAbs _ => 0x8C#8
  | .tax => 0xAA#8
  | .tay => 0xA8#8
  | .txa => 0x8A#8
  | .tya => 0x98#8
  | .tsx => 0xBA#8
  | .txs => 0x9A#8
  | .inx => 0xE8#8
  | .iny => 0xC8#8
  | .dex => 0xCA#8
  | .dey => 0x88#8
  | .incZp _ => 0xE6#8
  | .incZpx _ => 0xF6#8
  | .incAbs _ => 0xEE#8
  | .incAbsx _ => 0xFE#8
  | .decZp _ => 0xC6#8
  | .decZpx _ => 0xD6#8
  | .decAbs _ => 0xCE#8
  | .decAbsx _ => 0xDE#8
  | .adcImm _ => 0x69#8
  | .adcZp _ => 0x65#8
  | .adcZpx _ => 0x75#8
  | .adcAbs _ => 0x6D#8
  | .adcAbsx _ => 0x7D#8
  | .adcAbsy _ => 0x79#8
  | .adcIndx _ => 0x61#8
  | .adcIndy _ => 0x71#8
  | .sbcImm _ => 0xE9#8
  | .sbcZp _ => 0xE5#8
  | .sbcZpx _ => 0xF5#8
  | .sbcAbs _ => 0xED#8
  | .sbcAbsx _ => 0xFD#8
  | .sbcAbsy _ => 0xF9#8
  | .sbcIndx _ => 0xE1#8
  | .sbcIndy _ => 0xF1#8
  | .andImm _ => 0x29#8
  | .andZp _ => 0x25#8
  | .andZpx _ => 0x35#8
  | .andAbs _ => 0x2D#8
  | .andAbsx _ => 0x3D#8
  | .andAbsy _ => 0x39#8
  | .andIndx _ => 0x21#8
  | .andIndy _ => 0x31#8
  | .oraImm _ => 0x09#8
  | .oraZp _ => 0x05#8
  | .oraZpx _ => 0x15#8
  | .oraAbs _ => 0x0D#8
  | .oraAbsx _ => 0x1D#8
  | .oraAbsy _ => 0x19#8
  | .oraIndx _ => 0x01#8
  | .oraIndy _ => 0x11#8
  | .eorImm _ => 0x49#8
  | .eorZp _ => 0x45#8
  | .eorZpx _ => 0x55#8
  | .eorAbs _ => 0x4D#8
  | .eorAbsx _ => 0x5D#8
  | .eorAbsy _ => 0x59#8
  | .eorIndx _ => 0x41#8
  | .eorIndy _ => 0x51#8
  | .cmpImm _ => 0xC9#8
  | .cmpZp _ => 0xC5#8
  | .cmpZpx _ => 0xD5#8
  | .cmpAbs _ => 0xCD#8
  | .cmpAbsx _ => 0xDD#8
  | .cmpAbsy _ => 0xD9#8
  | .cmpIndx _ => 0xC1#8
  | .cmpIndy _ => 0xD1#8
  | .cpxImm _ => 0xE0#8
  | .cpxZp _ => 0xE4#8
  | .cpxAbs _ => 0xEC#8
  | .cpyImm _ => 0xC0#8
  | .cpyZp _ => 0xC4#8
  | .cpyAbs _ => 0xCC#8
  | .bitZp _ => 0x24#8
  | .bitAbs _ => 0x2C#8
  | .aslAcc => 0x0A#8
  | .aslZp _ => 0x06#8
  | .aslZpx _ => 0x16#8
  | .aslAbs _ => 0x0E#8
  | .aslAbsx _ => 0x1E#8
  | .lsrAcc => 0x4A#8
  | .lsrZp _ => 0x46#8
  | .lsrZpx _ => 0x56#8
  | .lsrAbs _ => 0x4E#8
  | .lsrAbsx _ => 0x5E#8
  | .rolAcc => 0x2A#8
  | .rolZp _ => 0x26#8
  | .rolZpx _ => 0x36#8
  | .rolAbs _ => 0x2E#8
  | .rolAbsx _ => 0x3E#8
  | .rorAcc => 0x6A#8
  | .rorZp _ => 0x66#8
  | .rorZpx _ => 0x76#8
  | .rorAbs _ => 0x6E#8
  | .rorAbsx _ => 0x7E#8
  | .jmpAbs _ => 0x4C#8
  | .jmpInd _ => 0x6C#8
  | .jsr _ => 0x20#8
  | .rts => 0x60#8
  | .bpl _ => 0x10#8
  | .bmi _ => 0x30#8
  | .bvc _ => 0x50#8
  | .bvs _ => 0x70#8
  | .bcc _ => 0x90#8
  | .bcs _ => 0xB0#8
  | .bne _ => 0xD0#8
  | .beq _ => 0xF0#8
  | .pha => 0x48#8
  | .pla => 0x68#8
  | .php => 0x08#8
  | .plp => 0x28#8
  | .clc => 0x18#8
  | .sec => 0x38#8
  | .cli => 0x58#8
  | .sei => 0x78#8
  | .cld => 0xD8#8
  | .sed => 0xF8#8
  | .clv => 0xB8#8
  | .nop => 0xEA#8
  | .rti => 0x40#8

/-- The bytes of an instruction: the opcode byte, then the operand bytes (30_encoding.md R90, R91). -/
def encode (i : Instr) : List Byte := i.opcode :: i.operand.bytes

end Sys2Proof
end

