-- ==== Sys2Proof/Machine/State.lean ====
section
/-! DEFINITION. The machine's state as plain data (10_state.md R30), its reset value, and the reasons a step can stop. -/

namespace Sys2Proof.Machine

/-- `RUN` (10_state.md R45). -/
inductive RunState where
  | running
  | halted
  | faulted
  deriving DecidableEq, Repr

/-- The two fatal conditions (60_exceptions.md R300).  Code 2 records the mode as well. -/
inductive FaultCode where
  | unimplementedOpcode
  | unsupportedAddressingMode (mode : Mode)
  deriving DecidableEq, Repr

/-- The record `(code, opcode, op_addr)` that `FAULT` holds (10_state.md R46, 60_exceptions.md R300). -/
structure FaultRecord where
  code : FaultCode
  opcode : Byte
  opAddr : Word
  deriving DecidableEq, Repr

/-- The two interrupts of profile FULL (60_exceptions.md R310). -/
inductive Interrupt where
  | nmi
  | irq
  deriving DecidableEq, Repr

/-- The named bits of P (10_state.md R39). -/
inductive Flag where
  | c | z | i | d | b | u | v | n
  deriving DecidableEq, Repr

/-- `MEM` as the bytes that differ from 0x00, addresses strictly rising.  An address not listed reads as 0x00, the value
`new` gives every byte (20_memory.md R76, 70_reset_and_hazards.md R341); `Memory.wf` states the form. -/
abbrev Memory := List Host.Cell

/-- The architectural state (10_state.md R30) and, in `cfg`, the two parameters the spec has a model take as arguments
(00_scope.md R10, log 1). -/
structure State where
  /-- A, the accumulator (R34). -/
  a : Byte
  /-- X, index register X (R35). -/
  x : Byte
  /-- Y, index register Y (R36). -/
  y : Byte
  /-- SP, the stack pointer (R37). -/
  sp : Byte
  /-- P, the status byte (R39). -/
  p : Byte
  /-- PC, the program counter (R38). -/
  pc : Word
  /-- MEM, the 65536 bytes of memory (20_memory.md R60). -/
  mem : Memory
  /-- RUN, the engine's state (R45). -/
  run : RunState
  /-- FAULT, the record of the fatal error that stopped the engine (R46). -/
  fault : Option FaultRecord
  /-- IRQ_LINE, the level input (R48). -/
  irqLine : Bool
  /-- NMI_PENDING, the latch (R48). -/
  nmiPending : Bool
  /-- STOP_REQ, the host's stop signal (R47). -/
  stopReq : Bool
  /-- OPCODE_PROFILE and DECIMAL_MODE (00_scope.md R10); constant while the core runs (R31). -/
  cfg : Config
  deriving DecidableEq, Repr

/-- What an operation handler answers (40_execution_engine.md R134): the state it leaves, and whether PC then advances past
the operand (`Next`) or takes a target (`Jump`). -/
inductive Flow where
  | next (s : State)
  | jump (target : Word) (s : State)
  deriving DecidableEq, Repr

/-- The reasons a step stops.  Both are raised by `engineStep` alone, and both are safe: the spec says that no step exists
there (40_execution_engine.md R136), so nothing the hardware does is left out.  The two fatal errors of the core are NOT
faults of the model: they are next states with `run = faulted` (60_exceptions.md R300, log 4). -/
inductive Fault where
  /-- `step` was asked of a core whose RUN is Halted (R136).  Safe. -/
  | engineHalted
  /-- `step` was asked of a core whose RUN is Faulted (R136).  Safe. -/
  | engineFaulted
  deriving DecidableEq, Repr

/-- The reasons an operation is refused. -/
inductive Refusal where
  /-- An arm of `exec` with no meaning yet; no arm raises it in this model.  Safe. -/
  | notModelled (mnemonic : String)
  /-- Raised by `hostLoad` alone, for an image longer than 0x8000 bytes: "refused by the host interface (no state changes)"
  (70_reset_and_hazards.md R344, decision D21).  No step raises it.  Safe. -/
  | imageTooLong
  deriving DecidableEq, Repr

/-- The outcome of an instruction or a step. -/
abbrev Result := Host.Outcome State Fault Refusal

/-- The state `new()` gives (10_state.md R49, 70_reset_and_hazards.md R341), under the given parameters. -/
def State.new (cfg : Config) : State where
  a := 0x00#8
  x := 0x00#8
  y := 0x00#8
  sp := 0x00#8
  p := 0x00#8
  pc := 0x0000#16
  mem := []
  run := .running
  fault := none
  irqLine := false
  nmiPending := false
  stopReq := false
  cfg := cfg

/-- The machine right after reset: `new()` and then `reset()` (10_state.md R49), under the default parameters (00_scope.md
R10).  PC is `read16(0xFFFC)` of the zeroed memory; the statement `ResetAfterNew` says that this is what the operation `hostReset`
gives. -/
def State.reset : State where
  a := 0x00#8
  x := 0x00#8
  y := 0x00#8
  sp := 0x00#8
  p := 0x00#8
  pc := 0x0000#16
  mem := []
  run := .running
  fault := none
  irqLine := false
  nmiPending := false
  stopReq := false
  cfg := Config.default

end Sys2Proof.Machine
end

