-- ==== Sys2Proof/Machine/Flags.lean ====
section
/-! DEFINITION. The Status Flag Unit (10_state.md section 3) and every flag and result computation of the ALU (44_alu.md,
45_shift_rotate.md).  Integer arithmetic in the rules is on unbounded integers, so it is on `Nat` or `Int` here and is
narrowed at the end (44_alu.md, opening paragraph). -/

namespace Sys2Proof.Machine

/-- The bit of P that holds a flag (10_state.md R39, decision D10). -/
def Flag.bit : Flag → Nat
  | .c => 0
  | .z => 1
  | .i => 2
  | .d => 3
  | .b => 4
  | .u => 5
  | .v => 6
  | .n => 7

/-- Read a flag of a status byte. -/
def getFlag (f : Flag) (p : Byte) : Bool := p.getLsbD f.bit

/-- Write a flag of a status byte and leave its other bits alone (10_state.md R42). -/
def putFlag (f : Flag) (value : Bool) (p : Byte) : Byte :=
  if value then p ||| (1#8 <<< f.bit) else p &&& ~~~(1#8 <<< f.bit)

/-- `setZN(v)` on a status byte (10_state.md R40). -/
def putZN (v : Byte) (p : Byte) : Byte := putFlag .n (v.getLsbD 7) (putFlag .z (v == 0#8) p)

/-- The status byte PHP pushes: bits 4 and 5 set (47_stack_flags_system.md R262, decision D13). -/
def pushedByPhp (p : Byte) : Byte := p ||| 0x30#8

/-- The status byte an interrupt entry pushes: bit 4 clear, bit 5 set (60_exceptions.md R311, decision D13). -/
def pushedByInterrupt (p : Byte) : Byte := (p &&& 0xEF#8) ||| 0x20#8

/-- P after PLP or RTI pulled `v`: bits 5 and 4 keep their value (47_stack_flags_system.md R263, R272). -/
def pulledStatus (v p : Byte) : Byte := (v &&& 0xCF#8) ||| (p &&& 0x30#8)

/-- A result of the adder with the four flags it writes. -/
structure AluResult where
  value : Byte
  n : Bool
  v : Bool
  z : Bool
  c : Bool
  deriving DecidableEq, Repr

/-- P after ADC or SBC: N, V, Z and C written, the other bits kept (44_alu.md R200, R202). -/
def putNVZC (r : AluResult) (p : Byte) : Byte :=
  putFlag .c r.c (putFlag .z r.z (putFlag .v r.v (putFlag .n r.n p)))

/-- The binary addition of ADC (44_alu.md R200). -/
def adcBinary (a m : Byte) (carry : Bool) : AluResult :=
  let s := a.toNat + m.toNat + carry.toNat
  let r := BitVec.ofNat 8 s
  { value := r
    n := r.getLsbD 7
    v := ((a ^^^ r) &&& (m ^^^ r)).getLsbD 7
    z := r == 0#8
    c := decide (s > 0xFF) }

/-- The decimal addition of ADC as the NMOS 6502 computes it, for every pair of bytes (44_alu.md R201). -/
def adcDecimal (a m : Byte) (carry : Bool) : AluResult :=
  let lo0 := (a &&& 0x0F#8).toNat + (m &&& 0x0F#8).toNat + carry.toNat
  let lo := if lo0 ≥ 0x0A then (lo0 + 0x06) % 16 + 0x10 else lo0
  let t0 := (a &&& 0xF0#8).toNat + (m &&& 0xF0#8).toNat + lo
  let st : Int := (a &&& 0xF0#8).toInt + (m &&& 0xF0#8).toInt + (lo : Int)
  let t := if t0 ≥ 0xA0 then t0 + 0x60 else t0
  { value := BitVec.ofNat 8 t
    n := (BitVec.ofInt 8 st).getLsbD 7
    v := decide (st < -128) || decide (st > 127)
    z := decide ((a.toNat + m.toNat + carry.toNat) % 256 = 0)
    c := decide (t ≥ 0x100) }

/-- The binary subtraction of SBC (44_alu.md R202). -/
def sbcBinary (a m : Byte) (carry : Bool) : AluResult :=
  let n := m ^^^ 0xFF#8
  let s := a.toNat + n.toNat + carry.toNat
  let r := BitVec.ofNat 8 s
  { value := r
    n := r.getLsbD 7
    v := ((a ^^^ r) &&& (n ^^^ r)).getLsbD 7
    z := r == 0#8
    c := decide (s > 0xFF) }

/-- The accumulator of the decimal subtraction of SBC (44_alu.md R203). -/
def sbcDecimalValue (a m : Byte) (carry : Bool) : Byte :=
  let lo0 : Int := (a &&& 0x0F#8).toNat - (m &&& 0x0F#8).toNat + (carry.toNat : Int) - 1
  let lo : Int := if lo0 < 0 then (lo0 - 0x06) % 16 - 0x10 else lo0
  let t0 : Int := (a &&& 0xF0#8).toNat - (m &&& 0xF0#8).toNat + lo
  let t : Int := if t0 < 0 then t0 - 0x60 else t0
  BitVec.ofInt 8 t

/-- The decimal subtraction of SBC: the accumulator of R203, the flags of the binary subtraction (44_alu.md R203). -/
def sbcDecimal (a m : Byte) (carry : Bool) : AluResult :=
  { sbcBinary a m carry with value := sbcDecimalValue a m carry }

/-- Whether ADC and SBC are decimal: `DECIMAL_MODE = NMOS` and `P.D = 1` (44_alu.md R199). -/
def decimalActive (cfg : Config) (p : Byte) : Bool :=
  cfg.decimalMode == .nmos && getFlag .d p

/-- ADC under the parameters and status given (44_alu.md R200, R201). -/
def adcResult (cfg : Config) (p a m : Byte) : AluResult :=
  if decimalActive cfg p then adcDecimal a m (getFlag .c p) else adcBinary a m (getFlag .c p)

/-- SBC under the parameters and status given (44_alu.md R202, R203). -/
def sbcResult (cfg : Config) (p a m : Byte) : AluResult :=
  if decimalActive cfg p then sbcDecimal a m (getFlag .c p) else sbcBinary a m (getFlag .c p)

/-- P after `compare(r, m)` (44_alu.md R207): C is the unsigned `r ≥ m`, Z and N come from the difference. -/
def putCompare (r m : Byte) (p : Byte) : Byte :=
  putZN (r - m) (putFlag .c (decide (r.toNat ≥ m.toNat)) p)

/-- P after BIT (44_alu.md R210). -/
def putBitTest (a m : Byte) (p : Byte) : Byte :=
  putFlag .v (m.getLsbD 6) (putFlag .n (m.getLsbD 7) (putFlag .z ((a &&& m) == 0#8) p))

/-- A result of the shifter and the bit shifted out. -/
structure ShiftResult where
  value : Byte
  out : Bool
  deriving DecidableEq, Repr

/-- ASL (45_shift_rotate.md R230); the old carry is not used. -/
def aslResult (v : Byte) (_carry : Bool) : ShiftResult :=
  { value := BitVec.ofNat 8 (v.toNat * 2), out := v.getLsbD 7 }

/-- LSR (45_shift_rotate.md R231); the old carry is not used. -/
def lsrResult (v : Byte) (_carry : Bool) : ShiftResult :=
  { value := BitVec.ofNat 8 (v.toNat / 2), out := v.getLsbD 0 }

/-- ROL (45_shift_rotate.md R232). -/
def rolResult (v : Byte) (carry : Bool) : ShiftResult :=
  { value := BitVec.ofNat 8 (v.toNat * 2 % 256 + carry.toNat), out := v.getLsbD 7 }

/-- ROR (45_shift_rotate.md R233). -/
def rorResult (v : Byte) (carry : Bool) : ShiftResult :=
  { value := BitVec.ofNat 8 (v.toNat / 2 + 128 * carry.toNat), out := v.getLsbD 0 }

/-- P after a shift or rotate: C is the bit shifted out, Z and N come from the result (45_shift_rotate.md). -/
def putShift (r : ShiftResult) (p : Byte) : Byte := putZN r.value (putFlag .c r.out p)

end Sys2Proof.Machine
end

