-- ==== Sys2Proof/Machine/Ops.lean ====
section
/-! DEFINITION. The named operations over registers and memory: the memory bus (20_memory.md), the stack (R70 to R72), the
status byte, taking an exception (60_exceptions.md R300, R311) and returning from one (47_stack_flags_system.md R272). -/

namespace Sys2Proof.Machine

/-! ## Memory as a canonical list -/

/-- The listed addresses are at least `lo`, strictly rising and inside the address space, and no listed byte is 0x00. -/
def Memory.wfFrom (lo : Nat) : Memory → Bool
  | [] => true
  | (k, v) :: rest =>
    decide (lo ≤ k) && decide (k < Config.memSize) && !(v == 0x00#8) && Memory.wfFrom (k + 1) rest

/-- The canonical form of memory: equal memories are equal lists. -/
def Memory.wf (m : Memory) : Bool := Memory.wfFrom 0 m

/-- The byte at an address; an address not listed reads as 0x00 (20_memory.md R76). -/
def Memory.read (m : Memory) (addr : Nat) : Byte :=
  match m with
  | [] => 0x00#8
  | (k, v) :: rest => if addr = k then v else Memory.read rest addr

/-- Write a byte and keep the canonical form: writing 0x00 removes the entry. -/
def Memory.write (m : Memory) (addr : Nat) (b : Byte) : Memory :=
  match m with
  | [] => if b = 0x00#8 then [] else [(addr, b)]
  | (k, v) :: rest =>
    if addr < k then (if b = 0x00#8 then (k, v) :: rest else (addr, b) :: (k, v) :: rest)
    else if addr = k then (if b = 0x00#8 then rest else (addr, b) :: rest)
    else (k, v) :: Memory.write rest addr b

/-! ## One update per field -/

/-- `a` written, every other field kept. -/
def State.setA (s : State) (v : Byte) : State := { s with a := v }

/-- `x` written, every other field kept. -/
def State.setX (s : State) (v : Byte) : State := { s with x := v }

/-- `y` written, every other field kept. -/
def State.setY (s : State) (v : Byte) : State := { s with y := v }

/-- `sp` written, every other field kept. -/
def State.setSp (s : State) (v : Byte) : State := { s with sp := v }

/-- `p` written, every other field kept. -/
def State.setP (s : State) (v : Byte) : State := { s with p := v }

/-- `pc` written, every other field kept. -/
def State.setPc (s : State) (v : Word) : State := { s with pc := v }

/-- `mem` written, every other field kept. -/
def State.setMem (s : State) (v : Memory) : State := { s with mem := v }

/-- `run` written, every other field kept. -/
def State.setRun (s : State) (v : RunState) : State := { s with run := v }

/-- `fault` written, every other field kept. -/
def State.setFault (s : State) (v : Option FaultRecord) : State := { s with fault := v }

/-- `irqLine` written, every other field kept. -/
def State.setIrqLine (s : State) (v : Bool) : State := { s with irqLine := v }

/-- `nmiPending` written, every other field kept. -/
def State.setNmiPending (s : State) (v : Bool) : State := { s with nmiPending := v }

/-- `stopReq` written, every other field kept. -/
def State.setStopReq (s : State) (v : Bool) : State := { s with stopReq := v }

/-- `cfg` written, every other field kept. -/
def State.setCfg (s : State) (v : Config) : State := { s with cfg := v }

/-! ## The memory bus (20_memory.md section 2) -/

/-- `read8(addr)` (20_memory.md R62). -/
def State.read8 (s : State) (addr : Word) : Byte := Memory.read s.mem addr.toNat

/-- `write8(addr, b)` (20_memory.md R63). -/
def State.write8 (s : State) (addr : Word) (b : Byte) : State := s.setMem (Memory.write s.mem addr.toNat b)

/-- `read16(addr)`: low byte at `addr`, high byte at `addr +16 1` (20_memory.md R64). -/
def State.read16 (s : State) (addr : Word) : Word := mkWord (s.read8 (addr + 1#16)) (s.read8 addr)

/-- `write16(addr, w)`: the low byte first (20_memory.md R65). -/
def State.write16 (s : State) (addr : Word) (w : Word) : State :=
  (s.write8 addr (loByte w)).write8 (addr + 1#16) (hiByte w)

/-! ## The status byte -/

/-- Write one flag of P (10_state.md R42). -/
def State.setFlag (s : State) (f : Flag) (value : Bool) : State := s.setP (putFlag f value s.p)

/-- `setZN(v)` (10_state.md R40). -/
def State.setZN (s : State) (v : Byte) : State := s.setP (putZN v s.p)

/-! ## The stack (20_memory.md section 4) -/

/-- The address of the stack byte a stack pointer names: `STACK_BASE + SP` (10_state.md R37). -/
def stackAddr (sp : Byte) : Word := Config.stackBase + zext16 sp

/-- `push(b)` (20_memory.md R70). -/
def State.push (s : State) (b : Byte) : State := (s.write8 (stackAddr s.sp) b).setSp (s.sp - 1#8)

/-- The byte `pull()` returns: the one at `STACK_BASE + (SP +8 1)` (20_memory.md R71). -/
def State.pulled (s : State) : Byte := s.read8 (stackAddr (s.sp + 1#8))

/-- The state `pull()` leaves: `SP <- SP +8 1` (20_memory.md R71). -/
def State.afterPull (s : State) : State := s.setSp (s.sp + 1#8)

/-- `push16(w)`: high byte, then low byte (20_memory.md R72). -/
def State.push16 (s : State) (w : Word) : State := (s.push (hiByte w)).push (loByte w)

/-- The word `pull16()` returns: low byte first, then high byte (20_memory.md R72). -/
def State.pulled16 (s : State) : Word := mkWord s.afterPull.pulled s.pulled

/-- The state `pull16()` leaves (20_memory.md R72). -/
def State.afterPull16 (s : State) : State := s.afterPull.afterPull

/-! ## Exceptions -/

/-- `raise Fault(code, info)` (60_exceptions.md R300): the step ends with RUN Faulted and the record in FAULT.  PC is
`op_addr +16 1` already, and nothing else changes (R304). -/
def State.raiseFault (s : State) (code : FaultCode) (opcode : Byte) (opAddr : Word) : State :=
  (s.setRun .faulted).setFault (some { code := code, opcode := opcode, opAddr := opAddr })

/-- The numeric code of a fault (60_exceptions.md R300, decision D7). -/
def FaultCode.number : FaultCode → Nat
  | .unimplementedOpcode => 1
  | .unsupportedAddressingMode _ => 2

/-- The vector an interrupt loads PC from (60_exceptions.md R311). -/
def Interrupt.vector : Interrupt → Word
  | .nmi => Config.nmiVector
  | .irq => Config.irqVector

/-- NMI_PENDING after an interrupt is taken: cleared by NMI, kept by IRQ (60_exceptions.md R311). -/
def Interrupt.latchAfter (k : Interrupt) (pending : Bool) : Bool :=
  match k with
  | .nmi => false
  | .irq => pending

/-- TAKING AN INTERRUPT (60_exceptions.md R311): PC pushed high byte first, then P with B = 0 and U = 1; I set; the NMI latch
cleared if NMI is taken; PC loaded from the vector. -/
def State.takeInterrupt (s : State) (k : Interrupt) : State :=
  let saved := (s.push16 s.pc).push (pushedByInterrupt s.p)
  let masked := (saved.setFlag .i true).setNmiPending (k.latchAfter s.nmiPending)
  masked.setPc (masked.read16 k.vector)

/-- RETURN FROM AN INTERRUPT (47_stack_flags_system.md R272): P pulled but for bits 5 and 4, then PC pulled. -/
def State.returnFromInterrupt (s : State) : Flow :=
  let restored := s.afterPull.setP (pulledStatus s.pulled s.p)
  .jump restored.pulled16 restored.afterPull16

/-- The stop (40_execution_engine.md R131 (1)): `STOP_REQ <- 0`, `RUN <- Halted`, and nothing else. -/
def State.stop (s : State) : State := (s.setStopReq false).setRun .halted

/-- Step 7 for the halt opcode (40_execution_engine.md R135). -/
def State.halt (s : State) : State := s.setRun .halted

end Sys2Proof.Machine
end

