-- ==== Sys2Proof/Machine/Operands.lean ====
section
/-! DEFINITION. The addressing-mode resolver (30_encoding.md R96 to R104) and the engine's steps 4 to 6 around an operation
handler (40_execution_engine.md R134).  A handler runs with `PC = p`, the address after the opcode byte (00_scope.md R16).
The operand bytes the resolver reads at `p` are the ones the instruction carries (log 2). -/

namespace Sys2Proof.Machine

/-- The word a zero-page pointer names, its high byte fetched with 8-bit wrap (30_encoding.md R96, INDX and INDY). -/
def State.zpPointer (s : State) (t : Byte) : Word :=
  mkWord (s.read8 (zext16 (t + 1#8))) (s.read8 (zext16 t))

/-- The address of the high byte of a JMP pointer: the next byte of the SAME page (30_encoding.md R101). -/
def samePageNext (ptr : Word) : Word := mkWord (hiByte ptr) (loByte ptr + 1#8)

/-- The word a JMP pointer names, with the NMOS page wrap (30_encoding.md R101). -/
def State.jmpPointer (s : State) (ptr : Word) : Word := mkWord (s.read8 (samePageNext ptr)) (s.read8 ptr)

/-- `resolve(mode)` (30_encoding.md R96, R100, R101): the effective address, or the mode that has none.  IMP is the error of
R99; ACC has no address either, and the engine resolves neither (R102, R104). -/
def resolve (o : Operand) (s : State) : Except Mode Word :=
  match o with
  | .imm _ => .ok s.pc
  | .zp zp8 => .ok (zext16 zp8)
  | .zpx zp8 => .ok (zext16 (zp8 + s.x))
  | .zpy zp8 => .ok (zext16 (zp8 + s.y))
  | .abs addr => .ok addr
  | .absx addr => .ok (addr + zext16 s.x)
  | .absy addr => .ok (addr + zext16 s.y)
  | .indx zp8 => .ok (s.zpPointer (zp8 + s.x))
  | .indy zp8 => .ok (s.zpPointer zp8 + zext16 s.y)
  | .rel off8 => .ok (s.pc + 1#16 + sext16 off8)
  | .ind addr => .ok (s.jmpPointer addr)
  | .imp => .error .imp
  | .acc => .error .acc

/-- The operand value of a reading instruction (30_encoding.md R103): the instruction's own second byte in mode IMM, the
byte at the effective address in the others. -/
def operandValue (o : Operand) (ea : Word) (s : State) : Byte :=
  match o with
  | .imm imm8 => imm8
  | .imp | .acc | .zp _ | .zpx _ | .zpy _ | .abs _ | .absx _ | .absy _ | .indx _ | .indy _ | .rel _ | .ind _ => s.read8 ea

/-- Step 6 (40_execution_engine.md R134): PC past the operand, or the target. -/
def finish (p : Word) (len : Nat) : Flow → State
  | .next s => s.setPc (p + BitVec.ofNat 16 len)
  | .jump target s => s.setPc target

/-- Steps 5 and 6 for a mode the engine does not resolve, IMP and ACC (40_execution_engine.md R134): operand length 0. -/
def runUnresolved (handler : State → Flow) (s : State) : Result :=
  .next (finish s.pc 0 (handler s))

/-- Steps 4 to 6 for a mode the engine resolves (40_execution_engine.md R134).  Where the resolver answers no address, the
fault UnsupportedAddressingMode is raised with the opcode at `op_addr = p -16 1` (60_exceptions.md R302, log 11). -/
def runResolved (o : Operand) (handler : Word → State → Flow) (s : State) : Result :=
  match resolve o s with
  | .ok ea => .next (finish s.pc o.mode.operandLen (handler ea s))
  | .error m =>
    .next (s.raiseFault (.unsupportedAddressingMode m) (s.read8 (s.pc - 1#16)) (s.pc - 1#16))

/-- The shared operation of the register-only instructions that apply `setZN`: a value computed from the state into a register,
Z and N from it (42_transfer.md R180 to R184, 43_inc_dec.md R190 to R193). -/
def registerResult (put : State → Byte → State) (value : State → Byte) (s : State) : Result :=
  runUnresolved (fun s => .next ((put s (value s)).setZN (value s))) s

end Sys2Proof.Machine
end

