-- ==== Sys2Proof/Machine/Alu.lean ====
section
/-! DEFINITION. Arithmetic, logic, comparison and bit test (44_alu.md), over the computations of Machine/Flags.lean. -/

namespace Sys2Proof.Machine

/-- ADC and SBC: the result into A and N, V, Z, C into P (44_alu.md R200 to R203). -/
def arithmetic (compute : Config → Byte → Byte → Byte → AluResult) (o : Operand) (s : State) : Result :=
  runResolved o
    (fun ea s =>
      let r := compute s.cfg s.p s.a (operandValue o ea s)
      .next ((s.setA r.value).setP (putNVZC r s.p))) s

/-- AND, ORA and EOR: the result into A, Z and N from it (44_alu.md R204 to R206). -/
def logical (combine : Byte → Byte → Byte) (o : Operand) (s : State) : Result :=
  runResolved o
    (fun ea s =>
      let r := combine s.a (operandValue o ea s)
      .next ((s.setA r).setZN r)) s

/-- CMP, CPX and CPY: `compare(r, m)` into P, no register written (44_alu.md R207 to R209). -/
def compare (register : State → Byte) (o : Operand) (s : State) : Result :=
  runResolved o (fun ea s => .next (s.setP (putCompare (register s) (operandValue o ea s) s.p))) s

/-- BIT: Z from `A and m`, N and V from `m` (44_alu.md R210). -/
def bitTest (o : Operand) (s : State) : Result :=
  runResolved o (fun ea s => .next (s.setP (putBitTest s.a (operandValue o ea s) s.p))) s

/-- ADC #imm8, opcode 0x69 (R200, R201). -/
def execAdcImm (imm8 : Byte) (s : State) : Result := arithmetic adcResult (.imm imm8) s

/-- ADC zp8, opcode 0x65 (R200, R201). -/
def execAdcZp (zp8 : Byte) (s : State) : Result := arithmetic adcResult (.zp zp8) s

/-- ADC zp8,X, opcode 0x75 (R200, R201). -/
def execAdcZpx (zp8 : Byte) (s : State) : Result := arithmetic adcResult (.zpx zp8) s

/-- ADC addr, opcode 0x6D (R200, R201). -/
def execAdcAbs (addr : Word) (s : State) : Result := arithmetic adcResult (.abs addr) s

/-- ADC addr,X, opcode 0x7D (R200, R201). -/
def execAdcAbsx (addr : Word) (s : State) : Result := arithmetic adcResult (.absx addr) s

/-- ADC addr,Y, opcode 0x79 (R200, R201). -/
def execAdcAbsy (addr : Word) (s : State) : Result := arithmetic adcResult (.absy addr) s

/-- ADC (zp8,X), opcode 0x61 (R200, R201). -/
def execAdcIndx (zp8 : Byte) (s : State) : Result := arithmetic adcResult (.indx zp8) s

/-- ADC (zp8),Y, opcode 0x71 (R200, R201). -/
def execAdcIndy (zp8 : Byte) (s : State) : Result := arithmetic adcResult (.indy zp8) s

/-- SBC #imm8, opcode 0xE9 (R202, R203). -/
def execSbcImm (imm8 : Byte) (s : State) : Result := arithmetic sbcResult (.imm imm8) s

/-- SBC zp8, opcode 0xE5 (R202, R203). -/
def execSbcZp (zp8 : Byte) (s : State) : Result := arithmetic sbcResult (.zp zp8) s

/-- SBC zp8,X, opcode 0xF5 (R202, R203). -/
def execSbcZpx (zp8 : Byte) (s : State) : Result := arithmetic sbcResult (.zpx zp8) s

/-- SBC addr, opcode 0xED (R202, R203). -/
def execSbcAbs (addr : Word) (s : State) : Result := arithmetic sbcResult (.abs addr) s

/-- SBC addr,X, opcode 0xFD (R202, R203). -/
def execSbcAbsx (addr : Word) (s : State) : Result := arithmetic sbcResult (.absx addr) s

/-- SBC addr,Y, opcode 0xF9 (R202, R203). -/
def execSbcAbsy (addr : Word) (s : State) : Result := arithmetic sbcResult (.absy addr) s

/-- SBC (zp8,X), opcode 0xE1 (R202, R203). -/
def execSbcIndx (zp8 : Byte) (s : State) : Result := arithmetic sbcResult (.indx zp8) s

/-- SBC (zp8),Y, opcode 0xF1 (R202, R203). -/
def execSbcIndy (zp8 : Byte) (s : State) : Result := arithmetic sbcResult (.indy zp8) s

/-- AND #imm8, opcode 0x29 (R204). -/
def execAndImm (imm8 : Byte) (s : State) : Result := logical (fun a m => a &&& m) (.imm imm8) s

/-- AND zp8, opcode 0x25 (R204). -/
def execAndZp (zp8 : Byte) (s : State) : Result := logical (fun a m => a &&& m) (.zp zp8) s

/-- AND zp8,X, opcode 0x35 (R204). -/
def execAndZpx (zp8 : Byte) (s : State) : Result := logical (fun a m => a &&& m) (.zpx zp8) s

/-- AND addr, opcode 0x2D (R204). -/
def execAndAbs (addr : Word) (s : State) : Result := logical (fun a m => a &&& m) (.abs addr) s

/-- AND addr,X, opcode 0x3D (R204). -/
def execAndAbsx (addr : Word) (s : State) : Result := logical (fun a m => a &&& m) (.absx addr) s

/-- AND addr,Y, opcode 0x39 (R204). -/
def execAndAbsy (addr : Word) (s : State) : Result := logical (fun a m => a &&& m) (.absy addr) s

/-- AND (zp8,X), opcode 0x21 (R204). -/
def execAndIndx (zp8 : Byte) (s : State) : Result := logical (fun a m => a &&& m) (.indx zp8) s

/-- AND (zp8),Y, opcode 0x31 (R204). -/
def execAndIndy (zp8 : Byte) (s : State) : Result := logical (fun a m => a &&& m) (.indy zp8) s

/-- ORA #imm8, opcode 0x09 (R205). -/
def execOraImm (imm8 : Byte) (s : State) : Result := logical (fun a m => a ||| m) (.imm imm8) s

/-- ORA zp8, opcode 0x05 (R205). -/
def execOraZp (zp8 : Byte) (s : State) : Result := logical (fun a m => a ||| m) (.zp zp8) s

/-- ORA zp8,X, opcode 0x15 (R205). -/
def execOraZpx (zp8 : Byte) (s : State) : Result := logical (fun a m => a ||| m) (.zpx zp8) s

/-- ORA addr, opcode 0x0D (R205). -/
def execOraAbs (addr : Word) (s : State) : Result := logical (fun a m => a ||| m) (.abs addr) s

/-- ORA addr,X, opcode 0x1D (R205). -/
def execOraAbsx (addr : Word) (s : State) : Result := logical (fun a m => a ||| m) (.absx addr) s

/-- ORA addr,Y, opcode 0x19 (R205). -/
def execOraAbsy (addr : Word) (s : State) : Result := logical (fun a m => a ||| m) (.absy addr) s

/-- ORA (zp8,X), opcode 0x01 (R205). -/
def execOraIndx (zp8 : Byte) (s : State) : Result := logical (fun a m => a ||| m) (.indx zp8) s

/-- ORA (zp8),Y, opcode 0x11 (R205). -/
def execOraIndy (zp8 : Byte) (s : State) : Result := logical (fun a m => a ||| m) (.indy zp8) s

/-- EOR #imm8, opcode 0x49 (R206). -/
def execEorImm (imm8 : Byte) (s : State) : Result := logical (fun a m => a ^^^ m) (.imm imm8) s

/-- EOR zp8, opcode 0x45 (R206). -/
def execEorZp (zp8 : Byte) (s : State) : Result := logical (fun a m => a ^^^ m) (.zp zp8) s

/-- EOR zp8,X, opcode 0x55 (R206). -/
def execEorZpx (zp8 : Byte) (s : State) : Result := logical (fun a m => a ^^^ m) (.zpx zp8) s

/-- EOR addr, opcode 0x4D (R206). -/
def execEorAbs (addr : Word) (s : State) : Result := logical (fun a m => a ^^^ m) (.abs addr) s

/-- EOR addr,X, opcode 0x5D (R206). -/
def execEorAbsx (addr : Word) (s : State) : Result := logical (fun a m => a ^^^ m) (.absx addr) s

/-- EOR addr,Y, opcode 0x59 (R206). -/
def execEorAbsy (addr : Word) (s : State) : Result := logical (fun a m => a ^^^ m) (.absy addr) s

/-- EOR (zp8,X), opcode 0x41 (R206). -/
def execEorIndx (zp8 : Byte) (s : State) : Result := logical (fun a m => a ^^^ m) (.indx zp8) s

/-- EOR (zp8),Y, opcode 0x51 (R206). -/
def execEorIndy (zp8 : Byte) (s : State) : Result := logical (fun a m => a ^^^ m) (.indy zp8) s

/-- CMP #imm8, opcode 0xC9 (R207). -/
def execCmpImm (imm8 : Byte) (s : State) : Result := compare State.a (.imm imm8) s

/-- CMP zp8, opcode 0xC5 (R207). -/
def execCmpZp (zp8 : Byte) (s : State) : Result := compare State.a (.zp zp8) s

/-- CMP zp8,X, opcode 0xD5 (R207). -/
def execCmpZpx (zp8 : Byte) (s : State) : Result := compare State.a (.zpx zp8) s

/-- CMP addr, opcode 0xCD (R207). -/
def execCmpAbs (addr : Word) (s : State) : Result := compare State.a (.abs addr) s

/-- CMP addr,X, opcode 0xDD (R207). -/
def execCmpAbsx (addr : Word) (s : State) : Result := compare State.a (.absx addr) s

/-- CMP addr,Y, opcode 0xD9 (R207). -/
def execCmpAbsy (addr : Word) (s : State) : Result := compare State.a (.absy addr) s

/-- CMP (zp8,X), opcode 0xC1 (R207). -/
def execCmpIndx (zp8 : Byte) (s : State) : Result := compare State.a (.indx zp8) s

/-- CMP (zp8),Y, opcode 0xD1 (R207). -/
def execCmpIndy (zp8 : Byte) (s : State) : Result := compare State.a (.indy zp8) s

/-- CPX #imm8, opcode 0xE0 (R208). -/
def execCpxImm (imm8 : Byte) (s : State) : Result := compare State.x (.imm imm8) s

/-- CPX zp8, opcode 0xE4 (R208). -/
def execCpxZp (zp8 : Byte) (s : State) : Result := compare State.x (.zp zp8) s

/-- CPX addr, opcode 0xEC (R208). -/
def execCpxAbs (addr : Word) (s : State) : Result := compare State.x (.abs addr) s

/-- CPY #imm8, opcode 0xC0 (R209). -/
def execCpyImm (imm8 : Byte) (s : State) : Result := compare State.y (.imm imm8) s

/-- CPY zp8, opcode 0xC4 (R209). -/
def execCpyZp (zp8 : Byte) (s : State) : Result := compare State.y (.zp zp8) s

/-- CPY addr, opcode 0xCC (R209). -/
def execCpyAbs (addr : Word) (s : State) : Result := compare State.y (.abs addr) s

/-- BIT zp8, opcode 0x24 (R210). -/
def execBitZp (zp8 : Byte) (s : State) : Result := bitTest (.zp zp8) s

/-- BIT addr, opcode 0x2C (R210). -/
def execBitAbs (addr : Word) (s : State) : Result := bitTest (.abs addr) s

end Sys2Proof.Machine
end

