-- ==== Sys2Proof/Machine/Control.lean ====
section
/-! DEFINITION. Control transfer (46_control_transfer.md): no instruction here writes a flag. -/

namespace Sys2Proof.Machine

/-- JMP: PC takes the effective address (46_control_transfer.md R240). -/
def jump (o : Operand) (s : State) : Result :=
  runResolved o (fun ea s => .jump ea s) s

/-- JSR: the address of the instruction's last byte is pushed, and PC takes the effective address, which was resolved before
the pushes (46_control_transfer.md R241). -/
def jumpSubroutine (o : Operand) (s : State) : Result :=
  runResolved o (fun ea s => .jump ea (s.push16 (s.pc + 1#16))) s

/-- A branch: PC takes the effective address if the flag has the value (46_control_transfer.md R243). -/
def branch (f : Flag) (value : Bool) (o : Operand) (s : State) : Result :=
  runResolved o (fun ea s => if getFlag f s.p = value then .jump ea s else .next s) s

/-- JMP addr, opcode 0x4C (R240). -/
def execJmpAbs (addr : Word) (s : State) : Result := jump (.abs addr) s

/-- JMP (addr), opcode 0x6C (R240). -/
def execJmpInd (addr : Word) (s : State) : Result := jump (.ind addr) s

/-- JSR addr, opcode 0x20 (R241). -/
def execJsr (addr : Word) (s : State) : Result := jumpSubroutine (.abs addr) s

/-- RTS, opcode 0x60 (R242). -/
def execRts (s : State) : Result := runUnresolved (fun s => .jump (s.pulled16 + 1#16) s.afterPull16) s

/-- BPL off8, opcode 0x10 (R244). -/
def execBpl (off8 : Byte) (s : State) : Result := branch .n false (.rel off8) s

/-- BMI off8, opcode 0x30 (R245). -/
def execBmi (off8 : Byte) (s : State) : Result := branch .n true (.rel off8) s

/-- BVC off8, opcode 0x50 (R246). -/
def execBvc (off8 : Byte) (s : State) : Result := branch .v false (.rel off8) s

/-- BVS off8, opcode 0x70 (R247). -/
def execBvs (off8 : Byte) (s : State) : Result := branch .v true (.rel off8) s

/-- BCC off8, opcode 0x90 (R248). -/
def execBcc (off8 : Byte) (s : State) : Result := branch .c false (.rel off8) s

/-- BCS off8, opcode 0xB0 (R249). -/
def execBcs (off8 : Byte) (s : State) : Result := branch .c true (.rel off8) s

/-- BNE off8, opcode 0xD0 (R250). -/
def execBne (off8 : Byte) (s : State) : Result := branch .z false (.rel off8) s

/-- BEQ off8, opcode 0xF0 (R251). -/
def execBeq (off8 : Byte) (s : State) : Result := branch .z true (.rel off8) s

end Sys2Proof.Machine
end

