-- ==== Sys2Proof/Machine/IncDec.lean ====
section
/-! DEFINITION. Increments and decrements (43_inc_dec.md): modulo 256, C and V never changed. -/

namespace Sys2Proof.Machine

/-- A read-modify-write of memory that applies `setZN`: one read, then one write (43_inc_dec.md R194, R195). -/
def changeMemory (change : Byte → Byte) (o : Operand) (s : State) : Result :=
  runResolved o (fun ea s => .next ((s.write8 ea (change (s.read8 ea))).setZN (change (s.read8 ea)))) s

/-- INX, opcode 0xE8 (R190). -/
def execInx (s : State) : Result := registerResult State.setX (fun s => s.x + 1#8) s

/-- INY, opcode 0xC8 (R191). -/
def execIny (s : State) : Result := registerResult State.setY (fun s => s.y + 1#8) s

/-- DEX, opcode 0xCA (R192). -/
def execDex (s : State) : Result := registerResult State.setX (fun s => s.x - 1#8) s

/-- DEY, opcode 0x88 (R193). -/
def execDey (s : State) : Result := registerResult State.setY (fun s => s.y - 1#8) s

/-- INC zp8, opcode 0xE6 (R194). -/
def execIncZp (zp8 : Byte) (s : State) : Result := changeMemory (fun v => v + 1#8) (.zp zp8) s

/-- INC zp8,X, opcode 0xF6 (R194). -/
def execIncZpx (zp8 : Byte) (s : State) : Result := changeMemory (fun v => v + 1#8) (.zpx zp8) s

/-- INC addr, opcode 0xEE (R194). -/
def execIncAbs (addr : Word) (s : State) : Result := changeMemory (fun v => v + 1#8) (.abs addr) s

/-- INC addr,X, opcode 0xFE (R194). -/
def execIncAbsx (addr : Word) (s : State) : Result := changeMemory (fun v => v + 1#8) (.absx addr) s

/-- DEC zp8, opcode 0xC6 (R195). -/
def execDecZp (zp8 : Byte) (s : State) : Result := changeMemory (fun v => v - 1#8) (.zp zp8) s

/-- DEC zp8,X, opcode 0xD6 (R195). -/
def execDecZpx (zp8 : Byte) (s : State) : Result := changeMemory (fun v => v - 1#8) (.zpx zp8) s

/-- DEC addr, opcode 0xCE (R195). -/
def execDecAbs (addr : Word) (s : State) : Result := changeMemory (fun v => v - 1#8) (.abs addr) s

/-- DEC addr,X, opcode 0xDE (R195). -/
def execDecAbsx (addr : Word) (s : State) : Result := changeMemory (fun v => v - 1#8) (.absx addr) s

end Sys2Proof.Machine
end

