-- ==== Sys2Proof/Machine/LoadStore.lean ====
section
/-! DEFINITION. Loads and stores (41_load_store.md): the shared load and store, then one definition per row of the opcode table. -/

namespace Sys2Proof.Machine

/-- A load: the operand value into a register, Z and N from it (41_load_store.md R160 to R162). -/
def load (put : State → Byte → State) (o : Operand) (s : State) : Result :=
  runResolved o (fun ea s => .next ((put s (operandValue o ea s)).setZN (operandValue o ea s))) s

/-- A store: a byte to the effective address, which is not read; no flag (41_load_store.md R163 to R165). -/
def store (value : State → Byte) (o : Operand) (s : State) : Result :=
  runResolved o (fun ea s => .next (s.write8 ea (value s))) s

/-- LDA #imm8, opcode 0xA9 (R160). -/
def execLdaImm (imm8 : Byte) (s : State) : Result := load State.setA (.imm imm8) s

/-- LDA zp8, opcode 0xA5 (R160). -/
def execLdaZp (zp8 : Byte) (s : State) : Result := load State.setA (.zp zp8) s

/-- LDA zp8,X, opcode 0xB5 (R160). -/
def execLdaZpx (zp8 : Byte) (s : State) : Result := load State.setA (.zpx zp8) s

/-- LDA addr, opcode 0xAD (R160). -/
def execLdaAbs (addr : Word) (s : State) : Result := load State.setA (.abs addr) s

/-- LDA addr,X, opcode 0xBD (R160). -/
def execLdaAbsx (addr : Word) (s : State) : Result := load State.setA (.absx addr) s

/-- LDA addr,Y, opcode 0xB9 (R160). -/
def execLdaAbsy (addr : Word) (s : State) : Result := load State.setA (.absy addr) s

/-- LDA (zp8,X), opcode 0xA1 (R160). -/
def execLdaIndx (zp8 : Byte) (s : State) : Result := load State.setA (.indx zp8) s

/-- LDA (zp8),Y, opcode 0xB1 (R160). -/
def execLdaIndy (zp8 : Byte) (s : State) : Result := load State.setA (.indy zp8) s

/-- LDX #imm8, opcode 0xA2 (R161). -/
def execLdxImm (imm8 : Byte) (s : State) : Result := load State.setX (.imm imm8) s

/-- LDX zp8, opcode 0xA6 (R161). -/
def execLdxZp (zp8 : Byte) (s : State) : Result := load State.setX (.zp zp8) s

/-- LDX zp8,Y, opcode 0xB6 (R161). -/
def execLdxZpy (zp8 : Byte) (s : State) : Result := load State.setX (.zpy zp8) s

/-- LDX addr, opcode 0xAE (R161). -/
def execLdxAbs (addr : Word) (s : State) : Result := load State.setX (.abs addr) s

/-- LDX addr,Y, opcode 0xBE (R161). -/
def execLdxAbsy (addr : Word) (s : State) : Result := load State.setX (.absy addr) s

/-- LDY #imm8, opcode 0xA0 (R162). -/
def execLdyImm (imm8 : Byte) (s : State) : Result := load State.setY (.imm imm8) s

/-- LDY zp8, opcode 0xA4 (R162). -/
def execLdyZp (zp8 : Byte) (s : State) : Result := load State.setY (.zp zp8) s

/-- LDY zp8,X, opcode 0xB4 (R162). -/
def execLdyZpx (zp8 : Byte) (s : State) : Result := load State.setY (.zpx zp8) s

/-- LDY addr, opcode 0xAC (R162). -/
def execLdyAbs (addr : Word) (s : State) : Result := load State.setY (.abs addr) s

/-- LDY addr,X, opcode 0xBC (R162). -/
def execLdyAbsx (addr : Word) (s : State) : Result := load State.setY (.absx addr) s

/-- STA zp8, opcode 0x85 (R163). -/
def execStaZp (zp8 : Byte) (s : State) : Result := store State.a (.zp zp8) s

/-- STA zp8,X, opcode 0x95 (R163). -/
def execStaZpx (zp8 : Byte) (s : State) : Result := store State.a (.zpx zp8) s

/-- STA addr, opcode 0x8D (R163). -/
def execStaAbs (addr : Word) (s : State) : Result := store State.a (.abs addr) s

/-- STA addr,X, opcode 0x9D (R163). -/
def execStaAbsx (addr : Word) (s : State) : Result := store State.a (.absx addr) s

/-- STA addr,Y, opcode 0x99 (R163). -/
def execStaAbsy (addr : Word) (s : State) : Result := store State.a (.absy addr) s

/-- STA (zp8,X), opcode 0x81 (R163). -/
def execStaIndx (zp8 : Byte) (s : State) : Result := store State.a (.indx zp8) s

/-- STA (zp8),Y, opcode 0x91 (R163). -/
def execStaIndy (zp8 : Byte) (s : State) : Result := store State.a (.indy zp8) s

/-- STX zp8, opcode 0x86 (R164). -/
def execStxZp (zp8 : Byte) (s : State) : Result := store State.x (.zp zp8) s

/-- STX zp8,Y, opcode 0x96 (R164). -/
def execStxZpy (zp8 : Byte) (s : State) : Result := store State.x (.zpy zp8) s

/-- STX addr, opcode 0x8E (R164). -/
def execStxAbs (addr : Word) (s : State) : Result := store State.x (.abs addr) s

/-- STY zp8, opcode 0x84 (R165). -/
def execStyZp (zp8 : Byte) (s : State) : Result := store State.y (.zp zp8) s

/-- STY zp8,X, opcode 0x94 (R165). -/
def execStyZpx (zp8 : Byte) (s : State) : Result := store State.y (.zpx zp8) s

/-- STY addr, opcode 0x8C (R165). -/
def execStyAbs (addr : Word) (s : State) : Result := store State.y (.abs addr) s

end Sys2Proof.Machine
end

