-- ==== Sys2Proof/Machine/Shift.lean ====
section
/-! DEFINITION. Shifts and rotates (45_shift_rotate.md): an accumulator form, which the engine does not resolve (30_encoding.md R102), and
memory forms, a read-modify-write. -/

namespace Sys2Proof.Machine

/-- A shift or rotate of A (45_shift_rotate.md, mode ACC). -/
def shiftAccumulator (compute : Byte → Bool → ShiftResult) (s : State) : Result :=
  runUnresolved
    (fun s =>
      let r := compute s.a (getFlag .c s.p)
      .next ((s.setA r.value).setP (putShift r s.p))) s

/-- A shift or rotate of memory: one read, then one write (45_shift_rotate.md, memory modes). -/
def shiftMemory (compute : Byte → Bool → ShiftResult) (o : Operand) (s : State) : Result :=
  runResolved o
    (fun ea s =>
      let r := compute (s.read8 ea) (getFlag .c s.p)
      .next ((s.write8 ea r.value).setP (putShift r s.p))) s

/-- ASL A, opcode 0x0A (R230). -/
def execAslAcc (s : State) : Result := shiftAccumulator aslResult s

/-- ASL zp8, opcode 0x06 (R230). -/
def execAslZp (zp8 : Byte) (s : State) : Result := shiftMemory aslResult (.zp zp8) s

/-- ASL zp8,X, opcode 0x16 (R230). -/
def execAslZpx (zp8 : Byte) (s : State) : Result := shiftMemory aslResult (.zpx zp8) s

/-- ASL addr, opcode 0x0E (R230). -/
def execAslAbs (addr : Word) (s : State) : Result := shiftMemory aslResult (.abs addr) s

/-- ASL addr,X, opcode 0x1E (R230). -/
def execAslAbsx (addr : Word) (s : State) : Result := shiftMemory aslResult (.absx addr) s

/-- LSR A, opcode 0x4A (R231). -/
def execLsrAcc (s : State) : Result := shiftAccumulator lsrResult s

/-- LSR zp8, opcode 0x46 (R231). -/
def execLsrZp (zp8 : Byte) (s : State) : Result := shiftMemory lsrResult (.zp zp8) s

/-- LSR zp8,X, opcode 0x56 (R231). -/
def execLsrZpx (zp8 : Byte) (s : State) : Result := shiftMemory lsrResult (.zpx zp8) s

/-- LSR addr, opcode 0x4E (R231). -/
def execLsrAbs (addr : Word) (s : State) : Result := shiftMemory lsrResult (.abs addr) s

/-- LSR addr,X, opcode 0x5E (R231). -/
def execLsrAbsx (addr : Word) (s : State) : Result := shiftMemory lsrResult (.absx addr) s

/-- ROL A, opcode 0x2A (R232). -/
def execRolAcc (s : State) : Result := shiftAccumulator rolResult s

/-- ROL zp8, opcode 0x26 (R232). -/
def execRolZp (zp8 : Byte) (s : State) : Result := shiftMemory rolResult (.zp zp8) s

/-- ROL zp8,X, opcode 0x36 (R232). -/
def execRolZpx (zp8 : Byte) (s : State) : Result := shiftMemory rolResult (.zpx zp8) s

/-- ROL addr, opcode 0x2E (R232). -/
def execRolAbs (addr : Word) (s : State) : Result := shiftMemory rolResult (.abs addr) s

/-- ROL addr,X, opcode 0x3E (R232). -/
def execRolAbsx (addr : Word) (s : State) : Result := shiftMemory rolResult (.absx addr) s

/-- ROR A, opcode 0x6A (R233). -/
def execRorAcc (s : State) : Result := shiftAccumulator rorResult s

/-- ROR zp8, opcode 0x66 (R233). -/
def execRorZp (zp8 : Byte) (s : State) : Result := shiftMemory rorResult (.zp zp8) s

/-- ROR zp8,X, opcode 0x76 (R233). -/
def execRorZpx (zp8 : Byte) (s : State) : Result := shiftMemory rorResult (.zpx zp8) s

/-- ROR addr, opcode 0x6E (R233). -/
def execRorAbs (addr : Word) (s : State) : Result := shiftMemory rorResult (.abs addr) s

/-- ROR addr,X, opcode 0x7E (R233). -/
def execRorAbsx (addr : Word) (s : State) : Result := shiftMemory rorResult (.absx addr) s

end Sys2Proof.Machine
end

