-- ==== Sys2Proof/Machine/System.lean ====
section
/-! DEFINITION. Stack, flag and system instructions (47_stack_flags_system.md), and BRK, the halt (40_execution_engine.md R140). -/

namespace Sys2Proof.Machine

/-- A flag instruction: one flag of P forced (47_stack_flags_system.md R264 to R270). -/
def forceFlag (f : Flag) (value : Bool) (s : State) : Result :=
  runUnresolved (fun s => .next (s.setFlag f value)) s

/-- BRK, opcode 0x00 (R140): the halt.  Its handler has no effect; step 7 of the engine for this opcode (R135) is
part of this meaning (log 14). -/
def execBrk (s : State) : Result := runUnresolved (fun s => .next s.halt) s

/-- PHA, opcode 0x48 (R260). -/
def execPha (s : State) : Result := runUnresolved (fun s => .next (s.push s.a)) s

/-- PLA, opcode 0x68 (R261). -/
def execPla (s : State) : Result := runUnresolved (fun s => .next ((s.afterPull.setA s.pulled).setZN s.pulled)) s

/-- PHP, opcode 0x08 (R262). -/
def execPhp (s : State) : Result := runUnresolved (fun s => .next (s.push (pushedByPhp s.p))) s

/-- PLP, opcode 0x28 (R263). -/
def execPlp (s : State) : Result := runUnresolved (fun s => .next (s.afterPull.setP (pulledStatus s.pulled s.p))) s

/-- CLC, opcode 0x18 (R264). -/
def execClc (s : State) : Result := forceFlag .c false s

/-- SEC, opcode 0x38 (R265). -/
def execSec (s : State) : Result := forceFlag .c true s

/-- CLI, opcode 0x58 (R266). -/
def execCli (s : State) : Result := forceFlag .i false s

/-- SEI, opcode 0x78 (R267). -/
def execSei (s : State) : Result := forceFlag .i true s

/-- CLD, opcode 0xD8 (R268). -/
def execCld (s : State) : Result := forceFlag .d false s

/-- SED, opcode 0xF8 (R269). -/
def execSed (s : State) : Result := forceFlag .d true s

/-- CLV, opcode 0xB8 (R270). -/
def execClv (s : State) : Result := forceFlag .v false s

/-- NOP, opcode 0xEA (R271). -/
def execNop (s : State) : Result := runUnresolved (fun s => .next s) s

/-- RTI, opcode 0x40 (R272). -/
def execRti (s : State) : Result := runUnresolved State.returnFromInterrupt s

end Sys2Proof.Machine
end

