-- ==== Sys2Proof/Machine/Transfer.lean ====
section
/-! DEFINITION. Register transfers (42_transfer.md). -/

namespace Sys2Proof.Machine

/-- TAX, opcode 0xAA (R180). -/
def execTax (s : State) : Result := registerResult State.setX State.a s

/-- TAY, opcode 0xA8 (R181). -/
def execTay (s : State) : Result := registerResult State.setY State.a s

/-- TXA, opcode 0x8A (R182). -/
def execTxa (s : State) : Result := registerResult State.setA State.x s

/-- TYA, opcode 0x98 (R183). -/
def execTya (s : State) : Result := registerResult State.setA State.y s

/-- TSX, opcode 0xBA (R184). -/
def execTsx (s : State) : Result := registerResult State.setX State.sp s

/-- TXS, opcode 0x9A (R185), the one transfer that writes no flag. -/
def execTxs (s : State) : Result := runUnresolved (fun s => .next (s.setSp s.x)) s

end Sys2Proof.Machine
end

