-- ==== Sys2Proof/Machine/Engine.lean ====
section
/-! DEFINITION. The fetch-decode-execute engine (40_execution_engine.md) around an executor of instructions; Step.lean gives it
`exec`. -/

namespace Sys2Proof.Machine

/-- `interruptPending()` (60_exceptions.md R310); under SUBSET neither input is read (R307). -/
def State.interruptPending (s : State) : Option Interrupt :=
  match s.cfg.profile with
  | .subset => none
  | .full =>
    if s.nmiPending then some .nmi
    else if s.irqLine && !getFlag .i s.p then some .irq
    else none

/-- The opcode byte and the two bytes after it, each address `+16 1` from the one before (30_encoding.md R90, R91). -/
def State.fetchBytes (s : State) : List Byte :=
  [s.read8 s.pc, s.read8 (s.pc + 1#16), s.read8 (s.pc + 2#16)]

/-- The state after step 2, `PC <- PC +16 1`: from here on PC is `p` (40_execution_engine.md R132). -/
def State.afterFetch (s : State) : State := s.setPc (s.pc + 1#16)

/-- One instruction (40_execution_engine.md R132 to R135): fetch, advance, look up; an opcode byte without a descriptor is the
fault UnimplementedOpcode, with PC at `op_addr +16 1` (R133).  Three bytes hold every instruction, so the decoder fails on
nothing else. -/
def runInstruction (executor : Instr → State → Result) (s : State) : Result :=
  match decode s.cfg.profile s.fetchBytes with
  | .ok (i, _) => executor i s.afterFetch
  | .error _ => .next (s.afterFetch.raiseFault .unimplementedOpcode (s.read8 s.pc) s.pc)

/-- One `step()` (40_execution_engine.md R131, R136): no step outside Running; in it the stop request, then a pending
interrupt, then one instruction. -/
def engineStep (executor : Instr → State → Result) (s : State) : Result :=
  match s.run with
  | .halted => .fault .engineHalted
  | .faulted => .fault .engineFaulted
  | .running =>
    if s.stopReq then .next s.stop
    else
      match s.interruptPending with
      | some k => .next (s.takeInterrupt k)
      | none => runInstruction executor s

/-! ## Placing one instruction to be run next (log 5) -/

/-- The profile under which a word of the opcode table is defined: the one in force, or FULL where only FULL has the row. -/
def State.selectProfileFor (s : State) (bytes : List Byte) : State :=
  match decode s.cfg.profile bytes, decode .full bytes with
  | .error _, .ok _ => s.setCfg { s.cfg with profile := .full }
  | .error _, .error _ => s
  | .ok _, _ => s

/-- Whatever would make the next step something other than an instruction is taken away: a stopped engine, a stop request,
a pending interrupt. -/
def State.readyToFetch (s : State) : State :=
  let restarted := ((s.setRun .running).setFault none).setStopReq false
  match restarted.interruptPending with
  | some _ => (restarted.setNmiPending false).setIrqLine false
  | none => restarted

/-- Consecutive bytes stored from an address on, each address `+16 1` from the one before. -/
def State.writeBytes (s : State) (addr : Word) : List Byte → State
  | [] => s
  | b :: rest => (s.write8 addr b).writeBytes (addr + 1#16) rest

/-- The instruction word of `nbits` bits placed at PC, ready to be fetched by the next step. -/
def State.placeWord (s : State) (nbits w : Nat) : State :=
  (s.selectProfileFor (tableBytes nbits w)).readyToFetch.writeBytes s.pc (tableBytes nbits w)

end Sys2Proof.Machine
end

