-- ==== Sys2Proof/Machine/Step.lean ====
section
/-! DEFINITION. The machine's step: the engine of Engine.lean over the dispatch. -/

namespace Sys2Proof.Machine

/-- One `step()` of the core (40_execution_engine.md R131). -/
def step : State → Host.Outcome State Fault Refusal := engineStep exec

/-- `s` with the instruction word `w` of `nbits` bits placed where the next step fetches, so that this step runs it (log 5). -/
def State.withFetchWord (s : State) (nbits w : Nat) : State := s.placeWord nbits w

end Sys2Proof.Machine
end

