-- ==== Sys2Proof/Machine/HostSurface.lean ====
section
/-! DEFINITION. The host control surface (70_reset_and_hazards.md R347): what the host may do between steps.  Reading a register,
a flag, RUN or FAULT is reading the field of State; `read8` and `read16` are those of Ops.lean.  The host writes no
register (R347). -/

namespace Sys2Proof.Machine

/-- `new()` (70_reset_and_hazards.md R341) under the given parameters. -/
def hostNew (cfg : Config) : State := State.new cfg

/-- `reset()` (70_reset_and_hazards.md R342): A, X and P zeroed, PC from the reset vector, the engine restarted; Y, SP, MEM and
IRQ_LINE unchanged. -/
def hostReset (s : State) : State :=
  let registers := ((s.setA 0x00#8).setX 0x00#8).setP 0x00#8
  let vectored := registers.setPc (registers.read16 Config.resetVector)
  (((vectored.setRun .running).setFault none).setStopReq false).setNmiPending false

/-- `load(bytes)` (70_reset_and_hazards.md R344): the image copied from 0x8000 on, then the reset vector written; a longer image
than 0x8000 bytes is refused with no state change. -/
def hostLoad (image : List Byte) (s : State) : Result :=
  if image.length ≤ Config.maxImage then
    .next ((s.writeBytes Config.loadBase image).write16 Config.resetVector Config.loadBase)
  else .refused .imageTooLong

/-- The host's `write8` (20_memory.md R81). -/
def hostWrite8 (addr : Word) (b : Byte) (s : State) : State := s.write8 addr b

/-- The host's `write16` (20_memory.md R81). -/
def hostWrite16 (addr : Word) (w : Word) (s : State) : State := s.write16 addr w

/-- The external stop signal (70_reset_and_hazards.md R348). -/
def hostStop (s : State) : State := s.setStopReq true

/-- The host drives `IRQ_LINE` (70_reset_and_hazards.md R349). -/
def hostSetIrqLine (level : Bool) (s : State) : State := s.setIrqLine level

/-- The host signals an NMI event (70_reset_and_hazards.md R349). -/
def hostSignalNmi (s : State) : State := s.setNmiPending true

/-- `run()` (40_execution_engine.md R138) for at most `fuel` steps: the state in which the engine has stopped, or none where it
has not stopped yet (log 8). -/
def hostRun (fuel : Nat) (s : State) : Option State :=
  match s.run, fuel with
  | .halted, _ => some s
  | .faulted, _ => some s
  | .running, 0 => none
  | .running, fuel + 1 =>
    match step s with
    | .next t => hostRun fuel t
    | .fault _ => none
    | .refused _ => none

/-- `run()` from `s` ends in `t` (40_execution_engine.md R138, 70_reset_and_hazards.md R350); a run that never ends has no such
`t`. -/
def RunEndsIn (s t : State) : Prop := ∃ fuel, hostRun fuel s = some t

/-- `load_and_run(bytes)` (70_reset_and_hazards.md R346): load, reset, run, for at most `fuel` steps.  DESIGN CHOICE (log 17): the
spec does not say what follows a refused load; here there is no reset and no run, and the answer is none, as for a run that has
not ended yet. -/
def hostLoadAndRun (fuel : Nat) (image : List Byte) (s : State) : Option State :=
  match hostLoad image s with
  | .next loaded => hostRun fuel (hostReset loaded)
  | .fault _ => none
  | .refused _ => none

end Sys2Proof.Machine
end

