-- ==== Sys2Proof/Safety.lean ====
section
/-! DEFINITION. What claims about the machine are stated in: the invariant of every reachable state, reachability through the
engine and the host surface, and the predicates that say what an instruction leaves alone. -/

namespace Sys2Proof.Safety

open Sys2Proof.Machine

/-- The invariant: memory is in canonical form; FAULT is empty unless RUN is Faulted, and then it holds a record (10_state.md
R46); bits 4 and 5 of P are 0 (10_state.md R43). -/
abbrev Inv (s : State) : Prop :=
  s.mem.wf = true ∧ (s.fault.isSome = true ↔ s.run = .faulted) ∧ s.p.getLsbD 4 = false ∧ s.p.getLsbD 5 = false

/-- The states a core can be in: created by `new`, then changed by steps and by the host between steps
(70_reset_and_hazards.md R347). -/
inductive Reachable : State → Prop where
  | new (cfg : Config) : Reachable (hostNew cfg)
  | step {s t : State} : Reachable s → Machine.step s = .next t → Reachable t
  | reset {s : State} : Reachable s → Reachable (hostReset s)
  | load {s t : State} (image : List Byte) : Reachable s → hostLoad image s = .next t → Reachable t
  | write8 {s : State} (addr : Word) (b : Byte) : Reachable s → Reachable (hostWrite8 addr b s)
  | write16 {s : State} (addr w : Word) : Reachable s → Reachable (hostWrite16 addr w s)
  | stop {s : State} : Reachable s → Reachable (hostStop s)
  | irq {s : State} (level : Bool) : Reachable s → Reachable (hostSetIrqLine level s)
  | nmi {s : State} : Reachable s → Reachable (hostSignalNmi s)

/-- The next step of `s` executes an instruction: the engine runs, no stop is requested, no interrupt is pending
(40_execution_engine.md R131). -/
abbrev ReadyForInstruction (s : State) : Prop :=
  s.run = .running ∧ s.stopReq = false ∧ s.interruptPending = none

/-- PC past the operand of an instruction that starts with PC at `p` (40_execution_engine.md R134, step 6). -/
def nextPc (i : Instr) (s : State) : Word := s.pc + BitVec.ofNat 16 i.mode.operandLen

/-- The opcode bytes a mnemonic has, each with its addressing mode, are exactly those listed. -/
def HasEncodings (mn : Mnemonic) (listed : List (Mode × Byte)) : Prop :=
  ∀ m b, (m, b) ∈ listed ↔ ∃ i : Instr, i.mnemonic = mn ∧ i.mode = m ∧ i.opcode = b

/-- Every bit of P but the listed ones is as before (10_state.md R42). -/
def BitsKept (written : List Nat) (p p' : Byte) : Prop := ∀ k, k ∉ written → p'.getLsbD k = p.getLsbD k

/-- Z (bit 1) and N (bit 7) are those of the result `v` (10_state.md R40). -/
def ZNof (v p' : Byte) : Prop := p'.getLsbD 1 = decide (v = 0x00#8) ∧ p'.getLsbD 7 = v.getLsbD 7

/-- An IRQ waits on I alone: FULL, no NMI latched, the line asserted (60_exceptions.md R310). -/
abbrev IrqAsserted (s : State) : Prop := s.cfg.profile = .full ∧ s.nmiPending = false ∧ s.irqLine = true

/-- `v` with status `p` becomes `r` with status `q` by the one-bit shift or rotate `mn` (45_shift_rotate.md R230 to R233): the
result, the bit shifted out in C, Z and N from the result, the other bits of the status kept. -/
def ShiftedOnce (mn : Mnemonic) (v p r q : Byte) : Prop :=
  ZNof r q ∧ BitsKept [0, 1, 7] p q ∧
  (mn = .asl → r.toNat = v.toNat * 2 % 256 ∧ q.getLsbD 0 = v.getLsbD 7) ∧
  (mn = .lsr → r.toNat = v.toNat / 2 ∧ q.getLsbD 0 = v.getLsbD 0) ∧
  (mn = .rol → r.toNat = v.toNat * 2 % 256 + (p.getLsbD 0).toNat ∧ q.getLsbD 0 = v.getLsbD 7) ∧
  (mn = .ror → r.toNat = v.toNat / 2 + 128 * (p.getLsbD 0).toNat ∧ q.getLsbD 0 = v.getLsbD 0)

/-- Every byte of memory outside the listed addresses reads as before. -/
def BytesKept (stored : List Word) (s t : State) : Prop := ∀ a, a ∉ stored → t.read8 a = s.read8 a

/-- The bits of P an instruction may write: the `Flags written` lines of the rules, gathered in the table of 10_state.md
section 3. -/
def flagBitsWritten : Mnemonic → List Nat
  | .lda | .ldx | .ldy | .tax | .tay | .txa | .tya | .tsx | .pla | .inx | .iny | .dex | .dey | .inc | .dec
  | .and | .ora | .eor => [1, 7]
  | .adc | .sbc => [0, 1, 6, 7]
  | .cmp | .cpx | .cpy | .asl | .lsr | .rol | .ror => [0, 1, 7]
  | .bit => [1, 6, 7]
  | .clc | .sec => [0]
  | .cli | .sei => [2]
  | .cld | .sed => [3]
  | .clv => [6]
  | .plp | .rti => [0, 1, 2, 3, 6, 7]
  | .sta | .stx | .sty | .txs | .pha | .php | .jmp | .jsr | .rts | .bpl | .bmi | .bvc | .bvs | .bcc | .bcs | .bne | .beq
  | .nop | .brk => []

/-- The addresses an instruction stores to, computed as the meanings compute them: the effective address of a store or a
read-modify-write, the stack slots of a push. -/
def storedAddresses (i : Instr) (s : State) : List Word :=
  match i.mnemonic with
  | .sta | .stx | .sty | .inc | .dec | .asl | .lsr | .rol | .ror =>
    match resolve i.operand s with
    | .ok ea => [ea]
    | .error _ => []
  | .pha | .php => [stackAddr s.sp]
  | .jsr => [stackAddr s.sp, stackAddr (s.sp - 1#8)]
  | .lda | .ldx | .ldy | .tax | .tay | .txa | .tya | .tsx | .txs | .inx | .iny | .dex | .dey | .adc | .sbc | .and | .ora
  | .eor | .cmp | .cpx | .cpy | .bit | .jmp | .rts | .bpl | .bmi | .bvc | .bvs | .bcc | .bcs | .bne | .beq | .pla | .plp
  | .clc | .sec | .cli | .sei | .cld | .sed | .clv | .nop | .rti | .brk => []

/-- A change of every next state an outcome may answer; faults and refusals as they are. -/
def mapNext (f : State → State) : Result → Result
  | .next s => .next (f s)
  | .fault r => .fault r
  | .refused r => .refused r

/-- A valid BCD byte: both digits below ten. -/
abbrev ValidBcd (b : Byte) : Prop := b.toNat % 16 < 10 ∧ b.toNat / 16 < 10

/-- The number a valid BCD byte stands for. -/
def bcdValue (b : Byte) : Nat := b.toNat / 16 * 10 + b.toNat % 16

end Sys2Proof.Safety
end

