-- ==== Sys2Proof/Certificates/Slice0/Obligations.lean ====
section
/-! DEFINITION. The statements for the provers.  In every statement about `exec i s` the PC of `s` is `p`, the address after the
opcode byte (00_scope.md R16; log 2).  Memory premises `s.mem.wf = true` name the canonical form, which every reachable
state has (`ReachableStatesMeetInvariant`). -/

open Sys2Proof Sys2Proof.Machine Sys2Proof.Safety

/-! ## Encoding -/

/-- Decode and encode agree, for every instruction and operand value, under every profile that has the instruction, whatever
bytes follow (30_encoding.md R91, R92, R108). -/
def Obligations.DecodeOfEncodeIsTheInstruction : Prop :=
  ∀ (pr : Profile) (i : Instr) (rest : List Byte), i.wf pr = true → decode pr (encode i ++ rest) = .ok (i, rest)

/-- The other direction: what decodes is well formed, its encoding is the bytes that were read (30_encoding.md R92), and they are
one opcode byte and the operand bytes of the mode (R95, R106). -/
def Obligations.EncodeOfDecodeIsTheBytes : Prop :=
  ∀ (pr : Profile) (bytes rest : List Byte) (i : Instr), decode pr bytes = .ok (i, rest) →
    i.wf pr = true ∧ encode i ++ rest = bytes ∧ bytes.length = 1 + i.mode.operandLen + rest.length

/-- 30_encoding.md R108 with the bytes of R109 and R110 written out: which opcode bytes decode, under each profile, and that a
SUBSET byte has the same instruction in both. -/
def Obligations.DefinedBytesOfEachProfile : Prop :=
  ∀ (b lo hi : Byte),
    (decode .full [b, lo, hi] = .error (.unimplementedOpcode b) ↔
      b ∈ [0x02#8, 0x03#8, 0x04#8, 0x07#8, 0x0B#8, 0x0C#8, 0x0F#8, 0x12#8, 0x13#8, 0x14#8, 0x17#8, 0x1A#8, 0x1B#8, 0x1C#8,
        0x1F#8, 0x22#8, 0x23#8, 0x27#8, 0x2B#8, 0x2F#8, 0x32#8, 0x33#8, 0x34#8, 0x37#8, 0x3A#8, 0x3B#8, 0x3C#8, 0x3F#8,
        0x42#8, 0x43#8, 0x44#8, 0x47#8, 0x4B#8, 0x4F#8, 0x52#8, 0x53#8, 0x54#8, 0x57#8, 0x5A#8, 0x5B#8, 0x5C#8, 0x5F#8,
        0x62#8, 0x63#8, 0x64#8, 0x67#8, 0x6B#8, 0x6F#8, 0x72#8, 0x73#8, 0x74#8, 0x77#8, 0x7A#8, 0x7B#8, 0x7C#8, 0x7F#8,
        0x80#8, 0x82#8, 0x83#8, 0x87#8, 0x89#8, 0x8B#8, 0x8F#8, 0x92#8, 0x93#8, 0x97#8, 0x9B#8, 0x9C#8, 0x9E#8, 0x9F#8,
        0xA3#8, 0xA7#8, 0xAB#8, 0xAF#8, 0xB2#8, 0xB3#8, 0xB7#8, 0xBB#8, 0xBF#8, 0xC2#8, 0xC3#8, 0xC7#8, 0xCB#8, 0xCF#8,
        0xD2#8, 0xD3#8, 0xD4#8, 0xD7#8, 0xDA#8, 0xDB#8, 0xDC#8, 0xDF#8, 0xE2#8, 0xE3#8, 0xE7#8, 0xEB#8, 0xEF#8, 0xF2#8,
        0xF3#8, 0xF4#8, 0xF7#8, 0xFA#8, 0xFB#8, 0xFC#8, 0xFF#8]) ∧
    (decode .subset [b, lo, hi] = .error (.unimplementedOpcode b) ↔
      b ∉ [0x00#8, 0xA9#8, 0xA5#8, 0xB5#8, 0xAD#8, 0xBD#8, 0xB9#8, 0xA1#8, 0xB1#8, 0xAA#8, 0xE8#8]) ∧
    (∀ r, decode .subset [b, lo, hi] = .ok r → decode .full [b, lo, hi] = .ok r)

/-- A few words from the spec's encodings decode to the instructions they stand for (30_encoding.md R113, 41_load_store.md to
47_stack_flags_system.md). -/
def Obligations.SampleWordsDecode : Prop :=
  decodeTableWord 8 0x00 = some .brk ∧ decodeTableWord 16 0xC0A9 = some (.ldaImm 0xC0#8) ∧
  decodeTableWord 24 0x1234AD = some (.ldaAbs 0x1234#16) ∧ decodeTableWord 16 0x8096 = some (.stxZpy 0x80#8) ∧
  decodeTableWord 8 0xBA = some .tsx ∧ decodeTableWord 24 0x00FFDE = some (.decAbsx 0x00FF#16) ∧
  decodeTableWord 16 0x01E9 = some (.sbcImm 0x01#8) ∧ decodeTableWord 8 0x6A = some .rorAcc ∧
  decodeTableWord 24 0x12FF6C = some (.jmpInd 0x12FF#16) ∧ decodeTableWord 16 0xFAD0 = some (.bne 0xFA#8) ∧
  decodeTableWord 8 0x40 = some .rti ∧ decodeTableWord 8 0x02 = none

/-! ## The resolver -/

/-- 30_encoding.md R96, R97, R99 to R103: for an instruction fetched at `s`, with `p` the address after its opcode byte, the
effective address of each mode is the one the pseudocode reads at `p`; the operand value of mode IMM is the byte at `p`, that of a
memory mode the byte at the address; zero-page indexed addresses stay in page 0; the engine turns the resolver's error for
IMP into the fault of R302.  Two clauses are the model's choice, log 11: that ACC, which the engine never resolves (R102), is an
error of the resolver, and that the record's opcode is read again at `p -16 1`. -/
def Obligations.ResolverFollowsTheRules : Prop :=
  (∀ (s : State) (i : Instr) (rest : List Byte), decode s.cfg.profile s.fetchBytes = .ok (i, rest) →
    let p := s.pc + 1#16
    let f := s.afterFetch
    (match i.mode with
    | .imm => resolve i.operand f = .ok p ∧ operandValue i.operand p f = s.read8 p
    | .zp => resolve i.operand f = .ok ((s.read8 p).setWidth 16)
    | .zpx => resolve i.operand f = .ok ((s.read8 p + s.x).setWidth 16)
    | .zpy => resolve i.operand f = .ok ((s.read8 p + s.y).setWidth 16)
    | .abs => resolve i.operand f = .ok (s.read16 p)
    | .absx => resolve i.operand f = .ok (s.read16 p + s.x.setWidth 16)
    | .absy => resolve i.operand f = .ok (s.read16 p + s.y.setWidth 16)
    | .indx =>
      let t := s.read8 p + s.x
      resolve i.operand f = .ok (s.read8 ((t + 1#8).setWidth 16) ++ s.read8 (t.setWidth 16))
    | .indy =>
      let t := s.read8 p
      resolve i.operand f = .ok ((s.read8 ((t + 1#8).setWidth 16) ++ s.read8 (t.setWidth 16)) + s.y.setWidth 16)
    | .rel => resolve i.operand f = .ok (p + 1#16 + (s.read8 p).signExtend 16)
    | .ind =>
      let ptr := s.read16 p
      let ptrHi : Word := ptr.extractLsb' 8 8 ++ (ptr.extractLsb' 0 8 + 1#8)
      resolve i.operand f = .ok (s.read8 ptrHi ++ s.read8 ptr)
    | .imp => resolve i.operand f = .error .imp
    | .acc => resolve i.operand f = .error .acc) ∧
    (i.mode ∈ [.zp, .zpx, .zpy, .abs, .absx, .absy, .indx, .indy] → ∀ ea, operandValue i.operand ea f = s.read8 ea)) ∧
  (∀ (zp8 : Byte) (s : State) (ea : Word),
    resolve (.zpx zp8) s = .ok ea ∨ resolve (.zpy zp8) s = .ok ea → ea.toNat ≤ 0xFF) ∧
  (∀ (handler : Word → State → Flow) (s : State),
    runResolved .imp handler s = .next { s with
      run := .faulted
      fault := some { code := .unsupportedAddressingMode .imp, opcode := s.read8 (s.pc - 1#16), opAddr := s.pc - 1#16 } })

/-! ## Memory and the stack -/

/-- 20_memory.md R64, R65: the two bytes of a word, the round trip at every address (at 0xFFFF an inference of R65), and that no
other byte changes. -/
def Obligations.WordReadAfterWordWrite : Prop :=
  ∀ (s : State) (addr w : Word), s.mem.wf = true →
    (s.read16 addr).toNat = (s.read8 addr).toNat + 256 * (s.read8 (addr + 1#16)).toNat ∧
    (s.write16 addr w).read16 addr = w ∧
    ((s.write16 addr w).read8 addr).toNat = w.toNat % 256 ∧
    ((s.write16 addr w).read8 (addr + 1#16)).toNat = w.toNat / 256 ∧
    BytesKept [addr, addr + 1#16] s (s.write16 addr w) ∧
    (s.write16 addr w) = { s with mem := (s.write16 addr w).mem }

/-- 20_memory.md R70, R71, R72: a push writes the byte at `0x0100 + SP` and then decrements SP modulo 256; a pull increments SP
and then reads; a word is pushed high byte first and pulled low byte first. -/
def Obligations.StackPushAndPull : Prop :=
  ∀ (s : State) (b : Byte) (w : Word), s.mem.wf = true →
    (let t := s.push b
     t = { s with sp := s.sp - 1#8, mem := t.mem } ∧ t.read8 (0x0100#16 + s.sp.setWidth 16) = b ∧
     BytesKept [0x0100#16 + s.sp.setWidth 16] s t ∧ t.pulled = b ∧ t.afterPull.sp = s.sp) ∧
    (s.pulled = s.read8 (0x0100#16 + (s.sp + 1#8).setWidth 16) ∧ s.afterPull = { s with sp := s.sp + 1#8 }) ∧
    (let t := s.push16 w
     t = { s with sp := s.sp - 2#8, mem := t.mem } ∧
     (t.read8 (0x0100#16 + s.sp.setWidth 16)).toNat = w.toNat / 256 ∧
     (t.read8 (0x0100#16 + (s.sp - 1#8).setWidth 16)).toNat = w.toNat % 256 ∧
     BytesKept [0x0100#16 + s.sp.setWidth 16, 0x0100#16 + (s.sp - 1#8).setWidth 16] s t ∧ t.pulled16 = w ∧
     t.afterPull16.sp = s.sp) ∧
    (s.pulled16 = s.read8 (0x0100#16 + (s.sp + 2#8).setWidth 16) ++ s.read8 (0x0100#16 + (s.sp + 1#8).setWidth 16) ∧
     s.afterPull16 = { s with sp := s.sp + 2#8 })

/-! ## The engine -/

/-- A step runs the decoded instruction: when the engine is to execute an instruction and the bytes at PC decode to `i`, the
step is `exec i` at the state whose PC is past the opcode byte (40_execution_engine.md R131 (3), R132, R134). -/
def Obligations.StepRunsTheDecodedInstruction : Prop :=
  ∀ (s : State) (i : Instr) (rest : List Byte), ReadyForInstruction s →
    decode s.cfg.profile s.fetchBytes = .ok (i, rest) → step s = exec i { s with pc := s.pc + 1#16 }

/-- 70_reset_and_hazards.md R348: after the host's stop signal the next step in Running only halts, whatever is pending. -/
def Obligations.StopSignalHaltsAtNextStep : Prop :=
  ∀ s : State, s.run = .running → step (hostStop s) = .next { s with stopReq := false, run := .halted }

/-- 40_execution_engine.md R133, 60_exceptions.md R301, R304: an opcode byte without a descriptor ends the step in Faulted with
the record; PC is `op_addr +16 1` and nothing else has changed. -/
def Obligations.UnimplementedOpcodeFaultsPrecisely : Prop :=
  ∀ s : State, ReadyForInstruction s → descriptor s.cfg.profile (s.read8 s.pc) = none →
    step s = .next { s with
      pc := s.pc + 1#16
      run := .faulted
      fault := some { code := .unimplementedOpcode, opcode := s.read8 s.pc, opAddr := s.pc } }

/-- 60_exceptions.md R310: the interrupt check, with the priority of NMI over IRQ; under SUBSET there is none (R307). -/
def Obligations.InterruptCheckHasItsPriority : Prop :=
  ∀ s : State,
    (s.interruptPending = some .nmi ↔ s.cfg.profile = .full ∧ s.nmiPending = true) ∧
    (s.interruptPending = some .irq ↔
      s.cfg.profile = .full ∧ s.nmiPending = false ∧ s.irqLine = true ∧ s.p.getLsbD 2 = false)

/-- 60_exceptions.md R310, R311: under FULL, with no stop request, NMI (whatever I is) and else IRQ with I = 0 is taken in one
step: PC high, PC low and `(P and 0xEF) or 0x20` are pushed, I is set, NMI clears its latch, PC comes from the vector. -/
def Obligations.PendingInterruptIsTaken : Prop :=
  ∀ s : State, s.run = .running → s.stopReq = false → s.cfg.profile = .full → s.mem.wf = true →
    (s.nmiPending = true ∨ (s.irqLine = true ∧ s.p.getLsbD 2 = false)) →
    ∃ t, step s = .next t ∧
      t = { s with
        sp := s.sp - 3#8
        p := s.p ||| 0x04#8
        pc := s.read16 (if s.nmiPending then 0xFFFA#16 else 0xFFFE#16)
        nmiPending := false
        mem := t.mem } ∧
      (t.read8 (0x0100#16 + s.sp.setWidth 16)).toNat = s.pc.toNat / 256 ∧
      (t.read8 (0x0100#16 + (s.sp - 1#8).setWidth 16)).toNat = s.pc.toNat % 256 ∧
      t.read8 (0x0100#16 + (s.sp - 2#8).setWidth 16) = (s.p &&& 0xEF#8) ||| 0x20#8 ∧
      BytesKept [0x0100#16 + s.sp.setWidth 16, 0x0100#16 + (s.sp - 1#8).setWidth 16,
        0x0100#16 + (s.sp - 2#8).setWidth 16] s t

/-- Under SUBSET a step neither reads nor changes the interrupt inputs (60_exceptions.md R307): with other inputs it answers the
same, with those inputs. -/
def Obligations.SubsetStepIgnoresInterruptInputs : Prop :=
  ∀ (s : State) (line pending : Bool), s.cfg.profile = .subset →
    step { s with irqLine := line, nmiPending := pending } =
      mapNext (fun t => { t with irqLine := line, nmiPending := pending }) (step s)

/-- 40_execution_engine.md R136: in Halted and in Faulted there is no step, whatever is requested or pending; the host's reset
restarts the engine.  That the model says so by a named fault is its choice (log 3). -/
def Obligations.HaltedAndFaultedHaveNoStep : Prop :=
  ∀ s : State,
    (s.run = .halted → step s = .fault .engineHalted) ∧ (s.run = .faulted → step s = .fault .engineFaulted) ∧
    (hostReset s).run = .running

/-- Every step from Running answers a next state: no memory, alignment, arithmetic, privilege or stack fault exists
(60_exceptions.md R303, 40_execution_engine.md R130). -/
def Obligations.EveryRunningStepCompletes : Prop :=
  ∀ s : State, s.run = .running → ∃ t, step s = .next t

/-- 40_execution_engine.md R130, R139: from Running a step ends in Halted exactly on a stop request or, with no interrupt
pending, on opcode 0x00; in Faulted exactly on a byte without a descriptor; and otherwise in Running. -/
def Obligations.StoppingConditionsAreExact : Prop :=
  ∀ s t : State, step s = .next t →
    s.run = .running ∧
    (t.run = .halted ↔ s.stopReq = true ∨ (s.interruptPending = none ∧ s.read8 s.pc = 0x00#8)) ∧
    (t.run = .faulted ↔
      s.stopReq = false ∧ s.interruptPending = none ∧ descriptor s.cfg.profile (s.read8 s.pc) = none)

/-- A step never changes the configuration parameters, `IRQ_LINE` (60_exceptions.md R312: "the core never clears `IRQ_LINE`") or,
but for taking the stop, `STOP_REQ`; and it changes `NMI_PENDING` only by taking an NMI. -/
def Obligations.StepKeepsInputsAndParameters : Prop :=
  ∀ s t : State, step s = .next t →
    t.cfg = s.cfg ∧ t.irqLine = s.irqLine ∧ t.stopReq = false ∧
    (t.nmiPending = s.nmiPending ∨
      (s.nmiPending = true ∧ t.nmiPending = false ∧ s.cfg.profile = .full ∧ s.stopReq = false))

/-! ## The invariant -/

/-- Every step keeps the invariant. -/
def Obligations.StepKeepsInvariant : Prop :=
  ∀ s t : State, Inv s → step s = .next t → Inv t

/-- The reset state meets the invariant. -/
def Obligations.ResetMeetsInvariant : Prop := Inv State.reset

/-- Every state that steps and host operations reach from `new` meets the invariant; 10_state.md R43 says so of bits 4 and 5 of P
("0 in every reachable state", an inference of the spec). -/
def Obligations.ReachableStatesMeetInvariant : Prop :=
  ∀ s : State, Reachable s → Inv s

/-! ## Whole-machine frames -/

/-- Under either profile and from every state, an instruction that completes leaves every bit of P alone but those its rule
lists (10_state.md R42, and R43 for bits 4 and 5). -/
def Obligations.OnlyListedFlagsChange : Prop :=
  ∀ (i : Instr) (s t : State), exec i s = .next t → BitsKept (flagBitsWritten i.mnemonic) s.p t.p

/-- Which instructions write A, X, Y and SP (10_state.md R34 to R37). -/
def Obligations.OnlyNamedInstructionsWriteARegister : Prop :=
  ∀ (i : Instr) (s t : State), exec i s = .next t →
    (t.a ≠ s.a → i.mnemonic ∈ [.lda, .txa, .tya, .pla, .adc, .sbc, .and, .ora, .eor] ∨
      (i.mnemonic ∈ [.asl, .lsr, .rol, .ror] ∧ i.mode = .acc)) ∧
    (t.x ≠ s.x → i.mnemonic ∈ [.ldx, .tax, .tsx, .inx, .dex]) ∧
    (t.y ≠ s.y → i.mnemonic ∈ [.ldy, .tay, .iny, .dey]) ∧
    (t.sp ≠ s.sp → i.mnemonic ∈ [.txs, .pha, .php, .pla, .plp, .jsr, .rts, .rti])

/-- Every byte outside the addresses an instruction stores to reads as before, and an instruction that stores nothing leaves
memory as it is (20_memory.md R63, R67, R69). -/
def Obligations.MemoryChangesOnlyAtStoredAddresses : Prop :=
  ∀ (i : Instr) (s t : State), s.mem.wf = true → exec i s = .next t →
    BytesKept (storedAddresses i s) s t ∧ (storedAddresses i s = [] → t.mem = s.mem)

/-- What no instruction touches: the fault record, the inputs, the stop request and the parameters; and RUN but for BRK. -/
def Obligations.InstructionsKeepEngineState : Prop :=
  ∀ (i : Instr) (s : State), ∃ t, exec i s = .next t ∧
    t.fault = s.fault ∧ t.irqLine = s.irqLine ∧ t.nmiPending = s.nmiPending ∧ t.stopReq = s.stopReq ∧ t.cfg = s.cfg ∧
    t.run = if i = .brk then .halted else s.run

/-- Under SUBSET a step leaves Y, SP, memory and every bit of P but Z and N alone (10_state.md R36, R37, R41). -/
def Obligations.SubsetStepKeepsYAndSpAndMemory : Prop :=
  ∀ s t : State, s.cfg.profile = .subset → step s = .next t →
    t.y = s.y ∧ t.sp = s.sp ∧ t.mem = s.mem ∧ BitsKept [1, 7] s.p t.p

/-- Under SUBSET no instruction reads a flag (10_state.md R44): with another P, a step changes everything but P alike. -/
def Obligations.SubsetStepIgnoresFlags : Prop :=
  ∀ (s : State) (q : Byte), s.cfg.profile = .subset →
    mapNext (fun t => { t with p := 0x00#8 }) (step { s with p := q }) =
      mapNext (fun t => { t with p := 0x00#8 }) (step s)

/-! ## Loads, stores and transfers -/

/-- 41_load_store.md R160: LDA in its eight modes. -/
def Obligations.LdaLoadsAccumulator : Prop :=
  HasEncodings .lda [(.imm, 0xA9#8), (.zp, 0xA5#8), (.zpx, 0xB5#8), (.abs, 0xAD#8), (.absx, 0xBD#8), (.absy, 0xB9#8),
    (.indx, 0xA1#8), (.indy, 0xB1#8)] ∧
  ∀ (i : Instr) (s : State), i.mnemonic = .lda →
    ∃ ea t, resolve i.operand s = .ok ea ∧ exec i s = .next t ∧
      t = { s with a := operandValue i.operand ea s, p := t.p, pc := nextPc i s } ∧
      ZNof (operandValue i.operand ea s) t.p ∧ BitsKept [1, 7] s.p t.p

/-- 41_load_store.md R161, R162: LDX and LDY in their five modes each. -/
def Obligations.LdxAndLdyLoadIndexRegisters : Prop :=
  HasEncodings .ldx [(.imm, 0xA2#8), (.zp, 0xA6#8), (.zpy, 0xB6#8), (.abs, 0xAE#8), (.absy, 0xBE#8)] ∧
  HasEncodings .ldy [(.imm, 0xA0#8), (.zp, 0xA4#8), (.zpx, 0xB4#8), (.abs, 0xAC#8), (.absx, 0xBC#8)] ∧
  ∀ (i : Instr) (s : State), i.mnemonic = .ldx ∨ i.mnemonic = .ldy →
    ∃ ea t, resolve i.operand s = .ok ea ∧ exec i s = .next t ∧
      (i.mnemonic = .ldx → t = { s with x := operandValue i.operand ea s, p := t.p, pc := nextPc i s }) ∧
      (i.mnemonic = .ldy → t = { s with y := operandValue i.operand ea s, p := t.p, pc := nextPc i s }) ∧
      ZNof (operandValue i.operand ea s) t.p ∧ BitsKept [1, 7] s.p t.p

/-- 41_load_store.md R163, R164, R165: the stores, in every mode; the byte lands at the effective address and no other byte, no
register and no flag changes. -/
def Obligations.StoresWriteOneByte : Prop :=
  HasEncodings .sta [(.zp, 0x85#8), (.zpx, 0x95#8), (.abs, 0x8D#8), (.absx, 0x9D#8), (.absy, 0x99#8), (.indx, 0x81#8),
    (.indy, 0x91#8)] ∧
  HasEncodings .stx [(.zp, 0x86#8), (.zpy, 0x96#8), (.abs, 0x8E#8)] ∧
  HasEncodings .sty [(.zp, 0x84#8), (.zpx, 0x94#8), (.abs, 0x8C#8)] ∧
  ∀ (i : Instr) (s : State) (value : Byte), s.mem.wf = true →
    (i.mnemonic = .sta ∧ value = s.a ∨ i.mnemonic = .stx ∧ value = s.x ∨ i.mnemonic = .sty ∧ value = s.y) →
    ∃ ea t, resolve i.operand s = .ok ea ∧ exec i s = .next t ∧
      t = { s with mem := t.mem, pc := nextPc i s } ∧ t.read8 ea = value ∧ BytesKept [ea] s t

/-- 42_transfer.md R180 to R184: the transfers that set Z and N. -/
def Obligations.TransfersCopyAndSetZN : Prop :=
  HasEncodings .tax [(.imp, 0xAA#8)] ∧ HasEncodings .tay [(.imp, 0xA8#8)] ∧ HasEncodings .txa [(.imp, 0x8A#8)] ∧
  HasEncodings .tya [(.imp, 0x98#8)] ∧ HasEncodings .tsx [(.imp, 0xBA#8)] ∧
  ∀ s : State,
    (∃ t, exec .tax s = .next t ∧ t = { s with x := s.a, p := t.p } ∧ ZNof s.a t.p ∧ BitsKept [1, 7] s.p t.p) ∧
    (∃ t, exec .tay s = .next t ∧ t = { s with y := s.a, p := t.p } ∧ ZNof s.a t.p ∧ BitsKept [1, 7] s.p t.p) ∧
    (∃ t, exec .txa s = .next t ∧ t = { s with a := s.x, p := t.p } ∧ ZNof s.x t.p ∧ BitsKept [1, 7] s.p t.p) ∧
    (∃ t, exec .tya s = .next t ∧ t = { s with a := s.y, p := t.p } ∧ ZNof s.y t.p ∧ BitsKept [1, 7] s.p t.p) ∧
    (∃ t, exec .tsx s = .next t ∧ t = { s with x := s.sp, p := t.p } ∧ ZNof s.sp t.p ∧ BitsKept [1, 7] s.p t.p)

/-- 42_transfer.md R185 and 47_stack_flags_system.md R271: TXS writes SP and no flag; NOP changes nothing but PC, which has
already passed the opcode byte. -/
def Obligations.TxsWritesNoFlagAndNopNothing : Prop :=
  HasEncodings .txs [(.imp, 0x9A#8)] ∧ HasEncodings .nop [(.imp, 0xEA#8)] ∧
  ∀ s : State, exec .txs s = .next { s with sp := s.x } ∧ exec .nop s = .next s

/-! ## Increments and decrements -/

/-- 43_inc_dec.md R190 to R193: the register increments and decrements, modulo 256. -/
def Obligations.RegisterIncrementsAndDecrements : Prop :=
  HasEncodings .inx [(.imp, 0xE8#8)] ∧ HasEncodings .iny [(.imp, 0xC8#8)] ∧ HasEncodings .dex [(.imp, 0xCA#8)] ∧
  HasEncodings .dey [(.imp, 0x88#8)] ∧
  ∀ s : State,
    (∃ t, exec .inx s = .next t ∧ t = { s with x := t.x, p := t.p } ∧ t.x.toNat = (s.x.toNat + 1) % 256 ∧
      ZNof t.x t.p ∧ BitsKept [1, 7] s.p t.p) ∧
    (∃ t, exec .iny s = .next t ∧ t = { s with y := t.y, p := t.p } ∧ t.y.toNat = (s.y.toNat + 1) % 256 ∧
      ZNof t.y t.p ∧ BitsKept [1, 7] s.p t.p) ∧
    (∃ t, exec .dex s = .next t ∧ t = { s with x := t.x, p := t.p } ∧ t.x.toNat = (s.x.toNat + 255) % 256 ∧
      ZNof t.x t.p ∧ BitsKept [1, 7] s.p t.p) ∧
    (∃ t, exec .dey s = .next t ∧ t = { s with y := t.y, p := t.p } ∧ t.y.toNat = (s.y.toNat + 255) % 256 ∧
      ZNof t.y t.p ∧ BitsKept [1, 7] s.p t.p)

/-- 43_inc_dec.md R194, R195: INC and DEC of memory, modulo 256: one byte written, Z and N set, nothing else changed. -/
def Obligations.MemoryIncrementsAndDecrements : Prop :=
  HasEncodings .inc [(.zp, 0xE6#8), (.zpx, 0xF6#8), (.abs, 0xEE#8), (.absx, 0xFE#8)] ∧
  HasEncodings .dec [(.zp, 0xC6#8), (.zpx, 0xD6#8), (.abs, 0xCE#8), (.absx, 0xDE#8)] ∧
  ∀ (i : Instr) (s : State), s.mem.wf = true → i.mnemonic = .inc ∨ i.mnemonic = .dec →
    ∃ ea t, resolve i.operand s = .ok ea ∧ exec i s = .next t ∧
      t = { s with mem := t.mem, p := t.p, pc := nextPc i s } ∧
      (i.mnemonic = .inc → (t.read8 ea).toNat = ((s.read8 ea).toNat + 1) % 256) ∧
      (i.mnemonic = .dec → (t.read8 ea).toNat = ((s.read8 ea).toNat + 255) % 256) ∧
      BytesKept [ea] s t ∧ ZNof (t.read8 ea) t.p ∧ BitsKept [1, 7] s.p t.p

/-! ## The ALU -/

/-- 44_alu.md R200: ADC in its eight modes; the result and flags of binary addition where decimal mode is not in force. -/
def Obligations.AdcBinaryAddition : Prop :=
  HasEncodings .adc [(.imm, 0x69#8), (.zp, 0x65#8), (.zpx, 0x75#8), (.abs, 0x6D#8), (.absx, 0x7D#8), (.absy, 0x79#8),
    (.indx, 0x61#8), (.indy, 0x71#8)] ∧
  ∀ (i : Instr) (s : State), i.mnemonic = .adc →
    ∃ ea t, resolve i.operand s = .ok ea ∧ exec i s = .next t ∧
      t = { s with a := t.a, p := t.p, pc := nextPc i s } ∧ BitsKept [0, 1, 6, 7] s.p t.p ∧
      (s.cfg.decimalMode = .ignored ∨ s.p.getLsbD 3 = false →
        let m := operandValue i.operand ea s
        let sum := s.a.toNat + m.toNat + (s.p.getLsbD 0).toNat
        t.a.toNat = sum % 256 ∧ ZNof t.a t.p ∧ t.p.getLsbD 0 = decide (sum > 0xFF) ∧
        t.p.getLsbD 6 = ((s.a ^^^ t.a) &&& (m ^^^ t.a)).getLsbD 7)

/-- 44_alu.md R201: ADC with `DECIMAL_MODE = NMOS` and D = 1, for every pair of bytes. -/
def Obligations.AdcDecimalAddition : Prop :=
  ∀ (i : Instr) (s : State), i.mnemonic = .adc → s.cfg.decimalMode = .nmos → s.p.getLsbD 3 = true →
    ∃ ea t, resolve i.operand s = .ok ea ∧ exec i s = .next t ∧
      t = { s with a := t.a, p := t.p, pc := nextPc i s } ∧ BitsKept [0, 1, 6, 7] s.p t.p ∧
      (let m := operandValue i.operand ea s
       let carry := (s.p.getLsbD 0).toNat
       let digits := s.a.toNat % 16 + m.toNat % 16 + carry
       let lo := if 10 ≤ digits then (digits + 6) % 16 + 16 else digits
       let sum := s.a.toNat / 16 * 16 + m.toNat / 16 * 16 + lo
       let signed : Int := (s.a &&& 0xF0#8).toInt + (m &&& 0xF0#8).toInt + lo
       let adjusted := if 0xA0 ≤ sum then sum + 0x60 else sum
       t.a.toNat = adjusted % 256 ∧
       t.p.getLsbD 0 = decide (0x100 ≤ adjusted) ∧
       t.p.getLsbD 1 = decide ((s.a.toNat + m.toNat + carry) % 256 = 0) ∧
       t.p.getLsbD 6 = decide (signed < -128 ∨ 127 < signed) ∧
       t.p.getLsbD 7 = decide (128 ≤ signed % 256))

/-- Decimal ADC on valid BCD bytes is the addition of the numbers they stand for, the hundred in the carry: a consequence of the
algorithm of 44_alu.md R201. -/
def Obligations.AdcDecimalAddsBcdNumbers : Prop :=
  ∀ a m : Byte, ∀ carry : Bool, ValidBcd a → ValidBcd m →
    ValidBcd (adcDecimal a m carry).value ∧
    bcdValue (adcDecimal a m carry).value + 100 * (adcDecimal a m carry).c.toNat =
      bcdValue a + bcdValue m + carry.toNat

/-- 44_alu.md R202: SBC in its eight modes; the result of binary subtraction where decimal mode is not in force, and the flags of
binary subtraction in every mode (R203). -/
def Obligations.SbcBinarySubtraction : Prop :=
  HasEncodings .sbc [(.imm, 0xE9#8), (.zp, 0xE5#8), (.zpx, 0xF5#8), (.abs, 0xED#8), (.absx, 0xFD#8), (.absy, 0xF9#8),
    (.indx, 0xE1#8), (.indy, 0xF1#8)] ∧
  ∀ (i : Instr) (s : State), i.mnemonic = .sbc →
    ∃ ea t, resolve i.operand s = .ok ea ∧ exec i s = .next t ∧
      t = { s with a := t.a, p := t.p, pc := nextPc i s } ∧ BitsKept [0, 1, 6, 7] s.p t.p ∧
      (let m := operandValue i.operand ea s
       let difference : Int := s.a.toNat - m.toNat - (1 - (s.p.getLsbD 0).toNat)
       let r := BitVec.ofInt 8 difference
       (s.cfg.decimalMode = .ignored ∨ s.p.getLsbD 3 = false → t.a = r) ∧
       ZNof r t.p ∧ t.p.getLsbD 0 = decide (0 ≤ difference) ∧
       t.p.getLsbD 6 = ((s.a ^^^ m) &&& (s.a ^^^ r)).getLsbD 7)

/-- 44_alu.md R203: SBC with `DECIMAL_MODE = NMOS` and D = 1, for every pair of bytes: the decimal accumulator, and N, V, Z and C
of the binary subtraction. -/
def Obligations.SbcDecimalSubtraction : Prop :=
  ∀ (i : Instr) (s : State), i.mnemonic = .sbc → s.cfg.decimalMode = .nmos → s.p.getLsbD 3 = true →
    ∃ ea t, resolve i.operand s = .ok ea ∧ exec i s = .next t ∧
      t = { s with a := t.a, p := t.p, pc := nextPc i s } ∧ BitsKept [0, 1, 6, 7] s.p t.p ∧
      (let m := operandValue i.operand ea s
       let difference : Int := s.a.toNat - m.toNat - (1 - (s.p.getLsbD 0).toNat)
       let r := BitVec.ofInt 8 difference
       let digits : Int := (s.a.toNat % 16 : Nat) - (m.toNat % 16 : Nat) + ((s.p.getLsbD 0).toNat : Int) - 1
       let lo : Int := if digits < 0 then (digits - 6) % 16 - 16 else digits
       let total : Int := (s.a.toNat / 16 * 16 : Nat) - (m.toNat / 16 * 16 : Nat) + lo
       let adjusted : Int := if total < 0 then total - 0x60 else total
       (t.a.toNat : Int) = adjusted % 256 ∧
       ZNof r t.p ∧ t.p.getLsbD 0 = decide (0 ≤ difference) ∧
       t.p.getLsbD 6 = ((s.a ^^^ m) &&& (s.a ^^^ r)).getLsbD 7)

/-- 44_alu.md R199: V of binary ADC and SBC says that the two's-complement result lies outside -128..127. -/
def Obligations.OverflowIsSignedRange : Prop :=
  ∀ a m : Byte, ∀ carry : Bool,
    (adcBinary a m carry).v = decide (a.toInt + m.toInt + carry.toNat < -128 ∨ 127 < a.toInt + m.toInt + carry.toNat) ∧
    (sbcBinary a m carry).v =
      decide (a.toInt - m.toInt - (1 - carry.toNat) < -128 ∨ 127 < a.toInt - m.toInt - (1 - carry.toNat))

/-- 44_alu.md R204, R205, R206: AND, ORA and EOR in their eight modes each, bit by bit. -/
def Obligations.LogicalOperationsOnAccumulator : Prop :=
  HasEncodings .and [(.imm, 0x29#8), (.zp, 0x25#8), (.zpx, 0x35#8), (.abs, 0x2D#8), (.absx, 0x3D#8), (.absy, 0x39#8),
    (.indx, 0x21#8), (.indy, 0x31#8)] ∧
  HasEncodings .ora [(.imm, 0x09#8), (.zp, 0x05#8), (.zpx, 0x15#8), (.abs, 0x0D#8), (.absx, 0x1D#8), (.absy, 0x19#8),
    (.indx, 0x01#8), (.indy, 0x11#8)] ∧
  HasEncodings .eor [(.imm, 0x49#8), (.zp, 0x45#8), (.zpx, 0x55#8), (.abs, 0x4D#8), (.absx, 0x5D#8), (.absy, 0x59#8),
    (.indx, 0x41#8), (.indy, 0x51#8)] ∧
  ∀ (i : Instr) (s : State), i.mnemonic = .and ∨ i.mnemonic = .ora ∨ i.mnemonic = .eor →
    ∃ ea t, resolve i.operand s = .ok ea ∧ exec i s = .next t ∧
      t = { s with a := t.a, p := t.p, pc := nextPc i s } ∧ ZNof t.a t.p ∧ BitsKept [1, 7] s.p t.p ∧
      ∀ k,
        (i.mnemonic = .and → t.a.getLsbD k = (s.a.getLsbD k && (operandValue i.operand ea s).getLsbD k)) ∧
        (i.mnemonic = .ora → t.a.getLsbD k = (s.a.getLsbD k || (operandValue i.operand ea s).getLsbD k)) ∧
        (i.mnemonic = .eor → t.a.getLsbD k = (s.a.getLsbD k ^^ (operandValue i.operand ea s).getLsbD k))

/-- 44_alu.md R207, R208, R209: CMP, CPX and CPY in every mode: C is the unsigned comparison, Z equality, N bit 7 of the
difference; no register and no memory byte changes. -/
def Obligations.ComparisonsSetOnlyFlags : Prop :=
  HasEncodings .cmp [(.imm, 0xC9#8), (.zp, 0xC5#8), (.zpx, 0xD5#8), (.abs, 0xCD#8), (.absx, 0xDD#8), (.absy, 0xD9#8),
    (.indx, 0xC1#8), (.indy, 0xD1#8)] ∧
  HasEncodings .cpx [(.imm, 0xE0#8), (.zp, 0xE4#8), (.abs, 0xEC#8)] ∧
  HasEncodings .cpy [(.imm, 0xC0#8), (.zp, 0xC4#8), (.abs, 0xCC#8)] ∧
  ∀ (i : Instr) (s : State) (r : Byte),
    (i.mnemonic = .cmp ∧ r = s.a ∨ i.mnemonic = .cpx ∧ r = s.x ∨ i.mnemonic = .cpy ∧ r = s.y) →
    ∃ ea t, resolve i.operand s = .ok ea ∧ exec i s = .next t ∧ t = { s with p := t.p, pc := nextPc i s } ∧
      (let m := operandValue i.operand ea s
       t.p.getLsbD 0 = decide (m.toNat ≤ r.toNat) ∧ t.p.getLsbD 1 = decide (r = m) ∧
       t.p.getLsbD 7 = decide (128 ≤ (r.toNat + 256 - m.toNat) % 256)) ∧
      BitsKept [0, 1, 7] s.p t.p

/-- 44_alu.md R210: BIT in its two modes. -/
def Obligations.BitTestsMemoryAgainstAccumulator : Prop :=
  HasEncodings .bit [(.zp, 0x24#8), (.abs, 0x2C#8)] ∧
  ∀ (i : Instr) (s : State), i.mnemonic = .bit →
    ∃ ea t, resolve i.operand s = .ok ea ∧ exec i s = .next t ∧ t = { s with p := t.p, pc := nextPc i s } ∧
      t.p.getLsbD 1 = decide (s.a &&& s.read8 ea = 0x00#8) ∧ t.p.getLsbD 7 = (s.read8 ea).getLsbD 7 ∧
      t.p.getLsbD 6 = (s.read8 ea).getLsbD 6 ∧ BitsKept [1, 6, 7] s.p t.p

/-! ## Shifts and rotates -/

/-- 45_shift_rotate.md R230 to R233: ASL, LSR, ROL and ROR in their accumulator and memory forms: the result, the bit shifted
out into C, Z and N; a memory form writes one byte; nothing else changes. -/
def Obligations.ShiftsAndRotates : Prop :=
  HasEncodings .asl [(.acc, 0x0A#8), (.zp, 0x06#8), (.zpx, 0x16#8), (.abs, 0x0E#8), (.absx, 0x1E#8)] ∧
  HasEncodings .lsr [(.acc, 0x4A#8), (.zp, 0x46#8), (.zpx, 0x56#8), (.abs, 0x4E#8), (.absx, 0x5E#8)] ∧
  HasEncodings .rol [(.acc, 0x2A#8), (.zp, 0x26#8), (.zpx, 0x36#8), (.abs, 0x2E#8), (.absx, 0x3E#8)] ∧
  HasEncodings .ror [(.acc, 0x6A#8), (.zp, 0x66#8), (.zpx, 0x76#8), (.abs, 0x6E#8), (.absx, 0x7E#8)] ∧
  ∀ (i : Instr) (s : State), i.mnemonic ∈ [.asl, .lsr, .rol, .ror] →
    (i.mode = .acc → ∃ t, exec i s = .next t ∧ t = { s with a := t.a, p := t.p } ∧
      ShiftedOnce i.mnemonic s.a s.p t.a t.p) ∧
    (i.mode ≠ .acc → s.mem.wf = true → ∃ ea t, resolve i.operand s = .ok ea ∧ exec i s = .next t ∧
      t = { s with mem := t.mem, p := t.p, pc := nextPc i s } ∧ BytesKept [ea] s t ∧
      ShiftedOnce i.mnemonic (s.read8 ea) s.p (t.read8 ea) t.p)

/-! ## Control transfer -/

/-- 46_control_transfer.md R240 with the pointer of 30_encoding.md R101: JMP changes PC only; `JMP (abs)` takes its high byte from
the same page as its low byte. -/
def Obligations.JmpTakesItsTarget : Prop :=
  HasEncodings .jmp [(.abs, 0x4C#8), (.ind, 0x6C#8)] ∧
  ∀ (s : State) (target ptr : Word),
    exec (.jmpAbs target) s = .next { s with pc := target } ∧
    exec (.jmpInd ptr) s = .next { s with
      pc := s.read8 (ptr.extractLsb' 8 8 ++ (ptr.extractLsb' 0 8 + 1#8)) ++ s.read8 ptr }

/-- 46_control_transfer.md R241: JSR pushes the address of its last byte, high byte first, and takes its target. -/
def Obligations.JsrPushesReturnAddress : Prop :=
  HasEncodings .jsr [(.abs, 0x20#8)] ∧
  ∀ (s : State) (target : Word), s.mem.wf = true →
    ∃ t, exec (.jsr target) s = .next t ∧ t = { s with sp := s.sp - 2#8, pc := target, mem := t.mem } ∧
      (t.read8 (0x0100#16 + s.sp.setWidth 16)).toNat = (s.pc + 1#16).toNat / 256 ∧
      (t.read8 (0x0100#16 + (s.sp - 1#8).setWidth 16)).toNat = (s.pc + 1#16).toNat % 256 ∧
      BytesKept [0x0100#16 + s.sp.setWidth 16, 0x0100#16 + (s.sp - 1#8).setWidth 16] s t

/-- 46_control_transfer.md R242: RTS pulls an address, low byte first, and goes to the one after it. -/
def Obligations.RtsGoesPastPulledAddress : Prop :=
  HasEncodings .rts [(.imp, 0x60#8)] ∧
  ∀ s : State, ∃ t, exec .rts s = .next t ∧ t = { s with sp := s.sp + 2#8, pc := t.pc } ∧
    t.pc.toNat = ((s.read8 (0x0100#16 + (s.sp + 1#8).setWidth 16)).toNat +
      256 * (s.read8 (0x0100#16 + (s.sp + 2#8).setWidth 16)).toNat + 1) % 65536

/-- An RTS in the state a JSR left returns to the byte after the JSR and restores SP, whatever SP was. -/
def Obligations.RtsReturnsAfterJsr : Prop :=
  ∀ (s : State) (target : Word), s.mem.wf = true →
    ∃ t u, exec (.jsr target) s = .next t ∧ exec .rts { t with pc := t.pc + 1#16 } = .next u ∧
      u = { s with pc := s.pc + 2#16, mem := t.mem }

/-- 46_control_transfer.md R243 to R251: the eight branches: their condition, the target where it holds, the next instruction
where it does not, and nothing else changed. -/
def Obligations.BranchesFollowTheirFlag : Prop :=
  HasEncodings .bpl [(.rel, 0x10#8)] ∧ HasEncodings .bmi [(.rel, 0x30#8)] ∧ HasEncodings .bvc [(.rel, 0x50#8)] ∧
  HasEncodings .bvs [(.rel, 0x70#8)] ∧ HasEncodings .bcc [(.rel, 0x90#8)] ∧ HasEncodings .bcs [(.rel, 0xB0#8)] ∧
  HasEncodings .bne [(.rel, 0xD0#8)] ∧ HasEncodings .beq [(.rel, 0xF0#8)] ∧
  ∀ (s : State) (off8 : Byte),
    let stay := s.pc + 1#16
    let target := s.pc + 1#16 + off8.signExtend 16
    exec (.bpl off8) s = .next { s with pc := if s.p.getLsbD 7 then stay else target } ∧
    exec (.bmi off8) s = .next { s with pc := if s.p.getLsbD 7 then target else stay } ∧
    exec (.bvc off8) s = .next { s with pc := if s.p.getLsbD 6 then stay else target } ∧
    exec (.bvs off8) s = .next { s with pc := if s.p.getLsbD 6 then target else stay } ∧
    exec (.bcc off8) s = .next { s with pc := if s.p.getLsbD 0 then stay else target } ∧
    exec (.bcs off8) s = .next { s with pc := if s.p.getLsbD 0 then target else stay } ∧
    exec (.bne off8) s = .next { s with pc := if s.p.getLsbD 1 then stay else target } ∧
    exec (.beq off8) s = .next { s with pc := if s.p.getLsbD 1 then target else stay }

/-! ## Stack, flags and system -/

/-- 47_stack_flags_system.md R260, R262: PHA pushes A, PHP pushes P with bits 4 and 5 set; nothing else changes. -/
def Obligations.PhaAndPhpPushOneByte : Prop :=
  HasEncodings .pha [(.imp, 0x48#8)] ∧ HasEncodings .php [(.imp, 0x08#8)] ∧
  ∀ s : State, s.mem.wf = true →
    (∃ t, exec .pha s = .next t ∧ t = { s with sp := s.sp - 1#8, mem := t.mem } ∧
      t.read8 (0x0100#16 + s.sp.setWidth 16) = s.a ∧ BytesKept [0x0100#16 + s.sp.setWidth 16] s t) ∧
    (∃ t, exec .php s = .next t ∧ t = { s with sp := s.sp - 1#8, mem := t.mem } ∧
      t.read8 (0x0100#16 + s.sp.setWidth 16) = s.p ||| 0x30#8 ∧ BytesKept [0x0100#16 + s.sp.setWidth 16] s t)

/-- 47_stack_flags_system.md R261, R263: PLA pulls A and sets Z and N; PLP pulls P but for bits 4 and 5, which keep their value,
and the pulled I masks IRQ at the next boundary; nothing else changes. -/
def Obligations.PlaAndPlpPullOneByte : Prop :=
  HasEncodings .pla [(.imp, 0x68#8)] ∧ HasEncodings .plp [(.imp, 0x28#8)] ∧
  ∀ s : State,
    let v := s.read8 (0x0100#16 + (s.sp + 1#8).setWidth 16)
    (∃ t, exec .pla s = .next t ∧ t = { s with a := v, sp := s.sp + 1#8, p := t.p } ∧ ZNof v t.p ∧
      BitsKept [1, 7] s.p t.p) ∧
    (∃ t, exec .plp s = .next t ∧ t = { s with sp := s.sp + 1#8, p := t.p } ∧
      (∀ k ∈ [0, 1, 2, 3, 6, 7], t.p.getLsbD k = v.getLsbD k) ∧ BitsKept [0, 1, 2, 3, 6, 7] s.p t.p ∧
      (IrqAsserted s → (t.interruptPending = some .irq ↔ v.getLsbD 2 = false)))

/-- A pull undoes the push before it: PLA after PHA gives A and SP back, PLP after PHP gives P and SP back, whatever ran on A and
P between them. -/
def Obligations.PullsUndoPushes : Prop :=
  ∀ (s : State) (a p : Byte) (pc : Word), s.mem.wf = true →
    (∃ t u, exec .pha s = .next t ∧ exec .pla { t with a := a, pc := pc } = .next u ∧ u.a = s.a ∧ u.sp = s.sp) ∧
    (p.getLsbD 4 = s.p.getLsbD 4 → p.getLsbD 5 = s.p.getLsbD 5 →
      ∃ t u, exec .php s = .next t ∧ exec .plp { t with p := p, pc := pc } = .next u ∧
        u = { s with mem := t.mem, pc := pc })

/-- 47_stack_flags_system.md R264 to R270: the flag instructions force one flag and change nothing else; after CLI an asserted IRQ
is pending at the next boundary, after SEI none is. -/
def Obligations.FlagInstructionsForceOneFlag : Prop :=
  HasEncodings .clc [(.imp, 0x18#8)] ∧ HasEncodings .sec [(.imp, 0x38#8)] ∧ HasEncodings .cli [(.imp, 0x58#8)] ∧
  HasEncodings .sei [(.imp, 0x78#8)] ∧ HasEncodings .cld [(.imp, 0xD8#8)] ∧ HasEncodings .sed [(.imp, 0xF8#8)] ∧
  HasEncodings .clv [(.imp, 0xB8#8)] ∧
  ∀ s : State,
    exec .clc s = .next { s with p := s.p &&& 0xFE#8 } ∧ exec .sec s = .next { s with p := s.p ||| 0x01#8 } ∧
    exec .cli s = .next { s with p := s.p &&& 0xFB#8 } ∧ exec .sei s = .next { s with p := s.p ||| 0x04#8 } ∧
    exec .cld s = .next { s with p := s.p &&& 0xF7#8 } ∧ exec .sed s = .next { s with p := s.p ||| 0x08#8 } ∧
    exec .clv s = .next { s with p := s.p &&& 0xBF#8 } ∧
    (IrqAsserted s →
      { s with p := s.p &&& 0xFB#8 }.interruptPending = some .irq ∧ { s with p := s.p ||| 0x04#8 }.interruptPending = none)

/-- 40_execution_engine.md R140: BRK is 0x00 in both profiles, halts the engine and has no other effect; PC stays past the opcode
byte. -/
def Obligations.BrkOnlyHalts : Prop :=
  HasEncodings .brk [(.imp, 0x00#8)] ∧ (∀ pr rest, decode pr (0x00#8 :: rest) = .ok (.brk, rest)) ∧
  ∀ s : State, exec .brk s = .next { s with run := .halted }

/-- 47_stack_flags_system.md R272: RTI pulls P but for bits 4 and 5, then PC, with no increment; the pulled I masks IRQ at the next
boundary. -/
def Obligations.RtiRestoresStatusAndPc : Prop :=
  HasEncodings .rti [(.imp, 0x40#8)] ∧
  ∀ s : State, ∃ t, exec .rti s = .next t ∧
    (let v := s.read8 (0x0100#16 + (s.sp + 1#8).setWidth 16)
     t = { s with
       sp := s.sp + 3#8
       p := (v &&& 0xCF#8) ||| (s.p &&& 0x30#8)
       pc := s.read8 (0x0100#16 + (s.sp + 3#8).setWidth 16) ++ s.read8 (0x0100#16 + (s.sp + 2#8).setWidth 16) } ∧
     (IrqAsserted s → (t.interruptPending = some .irq ↔ v.getLsbD 2 = false)))

/-- RTI undoes the interrupt entry (47_stack_flags_system.md R272, 60_exceptions.md R315): after an entry, wherever the handler
has moved PC, RTI gives P, SP and PC back; only the stack bytes and the NMI latch differ. -/
def Obligations.RtiUndoesInterruptEntry : Prop :=
  ∀ (s : State) (k : Interrupt) (pc : Word), s.mem.wf = true →
    ∃ t, exec .rti { s.takeInterrupt k with pc := pc } = .next t ∧
      t = { s with mem := (s.takeInterrupt k).mem, nmiPending := (s.takeInterrupt k).nmiPending }

/-! ## The host surface -/

/-- 70_reset_and_hazards.md R342: the host's `reset`, in any RUN state; nothing else leaves Halted or Faulted: no step exists there,
`run` returns at once, and every other host operation on a core keeps RUN (R347). -/
def Obligations.HostResetRestartsTheCore : Prop :=
  ∀ s : State,
    hostReset s = { s with
      a := 0x00#8
      x := 0x00#8
      p := 0x00#8
      pc := s.read8 0xFFFD#16 ++ s.read8 0xFFFC#16
      run := .running
      fault := none
      stopReq := false
      nmiPending := false } ∧
    (s.run ≠ .running → (∀ t, step s ≠ .next t) ∧ ∀ fuel, hostRun fuel s = some s) ∧
    (∀ image t, hostLoad image s = .next t → t.run = s.run) ∧
    (∀ addr b, (hostWrite8 addr b s).run = s.run) ∧ (∀ addr w, (hostWrite16 addr w s).run = s.run) ∧
    (hostStop s).run = s.run ∧ (∀ level, (hostSetIrqLine level s).run = s.run) ∧ (hostSignalNmi s).run = s.run

/-- 10_state.md R49: the reset state is `reset()` after `new()` under the default parameters; 70_reset_and_hazards.md R341: a step
straight after `new()` halts at 0x0001. -/
def Obligations.ResetAfterNew : Prop :=
  hostReset (hostNew Config.default) = State.reset ∧
  ∀ cfg, step (hostNew cfg) = .next { hostNew cfg with pc := 0x0001#16, run := .halted }

/-- 70_reset_and_hazards.md R344: `load` copies the image to 0x8000 and on, then writes the vector over it, and changes no
register; a longer image than 0x8000 bytes is refused. -/
def Obligations.LoadPlacesImageAndVector : Prop :=
  ∀ (image : List Byte) (s : State), s.mem.wf = true →
    (0x8000 < image.length → hostLoad image s = .refused .imageTooLong) ∧
    (image.length ≤ 0x8000 → ∃ t, hostLoad image s = .next t ∧ t = { s with mem := t.mem } ∧
      t.read8 0xFFFC#16 = 0x00#8 ∧ t.read8 0xFFFD#16 = 0x80#8 ∧
      ∀ a : Word, a ≠ 0xFFFC#16 → a ≠ 0xFFFD#16 →
        t.read8 a = if 0x8000 ≤ a.toNat ∧ a.toNat - 0x8000 < image.length
          then image.getD (a.toNat - 0x8000) 0x00#8 else s.read8 a)
end

