-- ==== Sys2Proof/Laws/Dispatch.lean ====
section
/-! SUPPORT. The dispatch by mnemonic: which shared operation runs an instruction, and that its operand resolves, for the mnemonics
that have several addressing modes.  Proofs cite these instead of splitting into 151 constructors. -/

namespace Sys2Proof.Machine

theorem exec_lda {i : Instr} (h : i.mnemonic = .lda) (s : State) :
    exec i s = load State.setA i.operand s ∧ ∃ ea, resolve i.operand s = .ok ea := by
  cases i <;> cases h <;> exact ⟨rfl, _, rfl⟩

theorem exec_ldx {i : Instr} (h : i.mnemonic = .ldx) (s : State) :
    exec i s = load State.setX i.operand s ∧ ∃ ea, resolve i.operand s = .ok ea := by
  cases i <;> cases h <;> exact ⟨rfl, _, rfl⟩

theorem exec_ldy {i : Instr} (h : i.mnemonic = .ldy) (s : State) :
    exec i s = load State.setY i.operand s ∧ ∃ ea, resolve i.operand s = .ok ea := by
  cases i <;> cases h <;> exact ⟨rfl, _, rfl⟩

theorem exec_sta {i : Instr} (h : i.mnemonic = .sta) (s : State) :
    exec i s = store State.a i.operand s ∧ ∃ ea, resolve i.operand s = .ok ea := by
  cases i <;> cases h <;> exact ⟨rfl, _, rfl⟩

theorem exec_stx {i : Instr} (h : i.mnemonic = .stx) (s : State) :
    exec i s = store State.x i.operand s ∧ ∃ ea, resolve i.operand s = .ok ea := by
  cases i <;> cases h <;> exact ⟨rfl, _, rfl⟩

theorem exec_sty {i : Instr} (h : i.mnemonic = .sty) (s : State) :
    exec i s = store State.y i.operand s ∧ ∃ ea, resolve i.operand s = .ok ea := by
  cases i <;> cases h <;> exact ⟨rfl, _, rfl⟩

theorem exec_inc {i : Instr} (h : i.mnemonic = .inc) (s : State) :
    exec i s = changeMemory (fun v => v + 1#8) i.operand s ∧ ∃ ea, resolve i.operand s = .ok ea := by
  cases i <;> cases h <;> exact ⟨rfl, _, rfl⟩

theorem exec_dec {i : Instr} (h : i.mnemonic = .dec) (s : State) :
    exec i s = changeMemory (fun v => v - 1#8) i.operand s ∧ ∃ ea, resolve i.operand s = .ok ea := by
  cases i <;> cases h <;> exact ⟨rfl, _, rfl⟩

theorem exec_adc {i : Instr} (h : i.mnemonic = .adc) (s : State) :
    exec i s = arithmetic adcResult i.operand s ∧ ∃ ea, resolve i.operand s = .ok ea := by
  cases i <;> cases h <;> exact ⟨rfl, _, rfl⟩

theorem exec_sbc {i : Instr} (h : i.mnemonic = .sbc) (s : State) :
    exec i s = arithmetic sbcResult i.operand s ∧ ∃ ea, resolve i.operand s = .ok ea := by
  cases i <;> cases h <;> exact ⟨rfl, _, rfl⟩

theorem exec_and {i : Instr} (h : i.mnemonic = .and) (s : State) :
    exec i s = logical (fun a m => a &&& m) i.operand s ∧ ∃ ea, resolve i.operand s = .ok ea := by
  cases i <;> cases h <;> exact ⟨rfl, _, rfl⟩

theorem exec_ora {i : Instr} (h : i.mnemonic = .ora) (s : State) :
    exec i s = logical (fun a m => a ||| m) i.operand s ∧ ∃ ea, resolve i.operand s = .ok ea := by
  cases i <;> cases h <;> exact ⟨rfl, _, rfl⟩

theorem exec_eor {i : Instr} (h : i.mnemonic = .eor) (s : State) :
    exec i s = logical (fun a m => a ^^^ m) i.operand s ∧ ∃ ea, resolve i.operand s = .ok ea := by
  cases i <;> cases h <;> exact ⟨rfl, _, rfl⟩

theorem exec_cmp {i : Instr} (h : i.mnemonic = .cmp) (s : State) :
    exec i s = compare State.a i.operand s ∧ ∃ ea, resolve i.operand s = .ok ea := by
  cases i <;> cases h <;> exact ⟨rfl, _, rfl⟩

theorem exec_cpx {i : Instr} (h : i.mnemonic = .cpx) (s : State) :
    exec i s = compare State.x i.operand s ∧ ∃ ea, resolve i.operand s = .ok ea := by
  cases i <;> cases h <;> exact ⟨rfl, _, rfl⟩

theorem exec_cpy {i : Instr} (h : i.mnemonic = .cpy) (s : State) :
    exec i s = compare State.y i.operand s ∧ ∃ ea, resolve i.operand s = .ok ea := by
  cases i <;> cases h <;> exact ⟨rfl, _, rfl⟩

theorem exec_bit {i : Instr} (h : i.mnemonic = .bit) (s : State) :
    exec i s = bitTest i.operand s ∧ ∃ ea, resolve i.operand s = .ok ea := by
  cases i <;> cases h <;> exact ⟨rfl, _, rfl⟩

theorem exec_asl {i : Instr} (h : i.mnemonic = .asl) (s : State) :
    (i.mode = .acc ∧ exec i s = shiftAccumulator aslResult s) ∨
    (i.mode ≠ .acc ∧ exec i s = shiftMemory aslResult i.operand s ∧ ∃ ea, resolve i.operand s = .ok ea) := by
  cases i <;> cases h <;> first | exact .inl ⟨rfl, rfl⟩ | exact .inr ⟨nofun, rfl, _, rfl⟩

theorem exec_lsr {i : Instr} (h : i.mnemonic = .lsr) (s : State) :
    (i.mode = .acc ∧ exec i s = shiftAccumulator lsrResult s) ∨
    (i.mode ≠ .acc ∧ exec i s = shiftMemory lsrResult i.operand s ∧ ∃ ea, resolve i.operand s = .ok ea) := by
  cases i <;> cases h <;> first | exact .inl ⟨rfl, rfl⟩ | exact .inr ⟨nofun, rfl, _, rfl⟩

theorem exec_rol {i : Instr} (h : i.mnemonic = .rol) (s : State) :
    (i.mode = .acc ∧ exec i s = shiftAccumulator rolResult s) ∨
    (i.mode ≠ .acc ∧ exec i s = shiftMemory rolResult i.operand s ∧ ∃ ea, resolve i.operand s = .ok ea) := by
  cases i <;> cases h <;> first | exact .inl ⟨rfl, rfl⟩ | exact .inr ⟨nofun, rfl, _, rfl⟩

theorem exec_ror {i : Instr} (h : i.mnemonic = .ror) (s : State) :
    (i.mode = .acc ∧ exec i s = shiftAccumulator rorResult s) ∨
    (i.mode ≠ .acc ∧ exec i s = shiftMemory rorResult i.operand s ∧ ∃ ea, resolve i.operand s = .ok ea) := by
  cases i <;> cases h <;> first | exact .inl ⟨rfl, rfl⟩ | exact .inr ⟨nofun, rfl, _, rfl⟩

end Sys2Proof.Machine
end

