-- ==== Sys2Proof/Laws/Engine.lean ====
section
/-! SUPPORT. Everything a step can do, said once (40_execution_engine.md R130, R131), and when the decoder fails. -/

namespace Sys2Proof.Machine

/-- With three bytes the decoder fails on an opcode byte without a descriptor and on nothing else. -/
theorem decode_three_error {pr : Profile} {b lo hi : Byte} {e : DecodeError} (h : decode pr [b, lo, hi] = .error e) :
    lookup pr b = .unimplemented ∧ e = .unimplementedOpcode b := by
  rw [decode] at h
  cases ht : lookup pr b <;> simp_all

theorem decode_three_unimplemented {pr : Profile} {b lo hi : Byte} (h : lookup pr b = .unimplemented) :
    decode pr [b, lo, hi] = .error (.unimplementedOpcode b) := by
  rw [decode, h]

/-- Everything a step that answers a next state can have done. -/
theorem step_cases {s t : State} (h : step s = .next t) :
    s.run = .running ∧
      ((s.stopReq = true ∧ t = s.stop) ∨
       (s.stopReq = false ∧ ∃ k, s.interruptPending = some k ∧ t = s.takeInterrupt k) ∨
       (s.stopReq = false ∧ s.interruptPending = none ∧
         ∃ i rest, decode s.cfg.profile s.fetchBytes = .ok (i, rest) ∧ exec i s.afterFetch = .next t) ∨
       (s.stopReq = false ∧ s.interruptPending = none ∧
         ∃ e, decode s.cfg.profile s.fetchBytes = .error e ∧
           t = s.afterFetch.raiseFault .unimplementedOpcode (s.read8 s.pc) s.pc)) := by
  unfold step engineStep at h
  cases hr : s.run <;> rw [hr] at h
  · refine ⟨rfl, ?_⟩
    cases hstop : s.stopReq <;> simp only [hstop] at h
    · cases hk : s.interruptPending <;> simp only [hk] at h
      · unfold runInstruction at h
        cases hd : decode s.cfg.profile s.fetchBytes with
        | error e =>
          rw [hd] at h
          exact .inr (.inr (.inr ⟨rfl, rfl, e, rfl, (Host.Outcome.next.inj h).symm⟩))
        | ok r =>
          obtain ⟨i, rest⟩ := r
          rw [hd] at h
          exact .inr (.inr (.inl ⟨rfl, rfl, i, rest, rfl, h⟩))
      · exact .inr (.inl ⟨rfl, _, rfl, (Host.Outcome.next.inj h).symm⟩)
    · exact .inl ⟨rfl, (Host.Outcome.next.inj h).symm⟩
  · cases h
  · cases h

/-- An interrupt is pending only under FULL, an NMI only with its latch set, an IRQ only with its line asserted and I clear
(60_exceptions.md R310). -/
theorem interruptPending_cases {s : State} {k : Interrupt} (h : s.interruptPending = some k) :
    s.cfg.profile = .full ∧
      ((k = .nmi ∧ s.nmiPending = true) ∨
       (k = .irq ∧ s.nmiPending = false ∧ s.irqLine = true ∧ getFlag .i s.p = false)) := by
  unfold State.interruptPending at h
  cases hp : s.cfg.profile <;> rw [hp] at h
  · cases h
  · refine ⟨rfl, ?_⟩
    cases hn : s.nmiPending <;> cases hl : s.irqLine <;> cases hi : getFlag .i s.p <;> simp_all

end Sys2Proof.Machine
end

