-- ==== Sys2Proof/Laws/Flags.lean ====
section
/-! SUPPORT. What each operation on the status byte does to each of its bits, said once. -/

namespace Sys2Proof.Machine

theorem Flag.bit_lt (f : Flag) : f.bit < 8 := by cases f <;> decide

theorem Flag.bit_inj {f g : Flag} : f.bit = g.bit ↔ f = g := by cases f <;> cases g <;> decide

/-- A status byte after one flag is written, bit by bit. -/
theorem getLsbD_putFlag (f : Flag) (v : Bool) (p : Byte) (k : Nat) :
    (putFlag f v p).getLsbD k = if k = f.bit then v else p.getLsbD k := by
  have hf := f.bit_lt
  cases v
  · by_cases hk : k = f.bit
    · subst hk
      simp [putFlag]
    · have h1 : k - f.bit = 0 → k < f.bit := by omega
      by_cases hk8 : k < 8
      · by_cases hlt : k < f.bit <;> simp [putFlag, hk, hk8, hlt]
        omega
      · simp [putFlag, hk, BitVec.getLsbD_of_ge _ k (Nat.le_of_not_lt hk8)]
  · by_cases hk : k = f.bit
    · subst hk
      simp [putFlag, hf]
    · by_cases hk8 : k < 8
      · by_cases hlt : k < f.bit <;> simp [putFlag, hk, hk8, hlt]
        omega
      · simp [putFlag, hk, BitVec.getLsbD_of_ge _ k (Nat.le_of_not_lt hk8)]

@[simp] theorem getFlag_putFlag (f g : Flag) (v : Bool) (p : Byte) :
    getFlag g (putFlag f v p) = if g = f then v else getFlag g p := by
  rw [getFlag, getLsbD_putFlag, getFlag]
  simp only [Flag.bit_inj]

theorem getLsbD_putZN (v p : Byte) (k : Nat) :
    (putZN v p).getLsbD k = if k = 7 then v.getLsbD 7 else if k = 1 then v == 0x00#8 else p.getLsbD k := by
  simp only [putZN, getLsbD_putFlag, Flag.bit]
  rfl

theorem getLsbD_putNVZC (r : AluResult) (p : Byte) (k : Nat) :
    (putNVZC r p).getLsbD k =
      if k = 0 then r.c else if k = 1 then r.z else if k = 6 then r.v else if k = 7 then r.n else p.getLsbD k := by
  simp only [putNVZC, getLsbD_putFlag, Flag.bit]
  rfl

theorem getLsbD_putCompare (r m p : Byte) (k : Nat) :
    (putCompare r m p).getLsbD k =
      if k = 7 then (r - m).getLsbD 7 else if k = 1 then (r - m) == 0x00#8
      else if k = 0 then decide (r.toNat ≥ m.toNat) else p.getLsbD k := by
  simp only [putCompare, getLsbD_putZN, getLsbD_putFlag, Flag.bit]
  rfl

theorem getLsbD_putBitTest (a m p : Byte) (k : Nat) :
    (putBitTest a m p).getLsbD k =
      if k = 6 then m.getLsbD 6 else if k = 7 then m.getLsbD 7
      else if k = 1 then (a &&& m) == 0x00#8 else p.getLsbD k := by
  simp only [putBitTest, getLsbD_putFlag, Flag.bit]
  rfl

theorem getLsbD_putShift (r : ShiftResult) (p : Byte) (k : Nat) :
    (putShift r p).getLsbD k =
      if k = 7 then r.value.getLsbD 7 else if k = 1 then r.value == 0x00#8
      else if k = 0 then r.out else p.getLsbD k := by
  simp only [putShift, getLsbD_putZN, getLsbD_putFlag, Flag.bit]
  rfl

/-- P after a pull: bits 4 and 5 kept, the others pulled. -/
theorem getLsbD_pulledStatus (v p : Byte) (k : Nat) :
    (pulledStatus v p).getLsbD k = if k = 4 ∨ k = 5 then p.getLsbD k else v.getLsbD k := by
  by_cases hk : k < 8
  · interval_cases k <;> simp [pulledStatus]
  · simp only [BitVec.getLsbD_of_ge _ k (Nat.le_of_not_lt hk), ite_self]

theorem getLsbD_pushedByPhp (p : Byte) (k : Nat) :
    (pushedByPhp p).getLsbD k = (decide (k = 4 ∨ k = 5) || p.getLsbD k) := by
  by_cases hk : k < 8
  · interval_cases k <;> simp [pushedByPhp]
  · simp only [BitVec.getLsbD_of_ge _ k (Nat.le_of_not_lt hk), Bool.or_false]
    exact (decide_eq_false (by omega)).symm

theorem getLsbD_pushedByInterrupt (p : Byte) (k : Nat) :
    (pushedByInterrupt p).getLsbD k = if k = 4 then false else decide (k = 5) || p.getLsbD k := by
  by_cases hk : k < 8
  · interval_cases k <;> simp [pushedByInterrupt]
  · simp only [BitVec.getLsbD_of_ge _ k (Nat.le_of_not_lt hk), Bool.or_false]
    rw [decide_eq_false (by omega), ite_self]

/-- Two bytes with the same eight bits are equal. -/
theorem byte_ext {p q : Byte} (h : ∀ k, k < 8 → p.getLsbD k = q.getLsbD k) : p = q :=
  BitVec.eq_of_getLsbD_eq h

end Sys2Proof.Machine
end

