-- ==== Sys2Proof/Laws/Operands.lean ====
section
/-! SUPPORT. The resolver and the engine's frame around a handler: when there is an address, and everything the shared operations
can answer. -/

namespace Sys2Proof.Machine

/-- The resolver answers an address for every operand but IMP and ACC (30_encoding.md R104). -/
theorem resolve_ok {o : Operand} (h : o ≠ .imp) (h' : o ≠ .acc) (s : State) : ∃ ea, resolve o s = .ok ea := by
  cases o <;> first | exact ⟨_, rfl⟩ | exact absurd rfl h | exact absurd rfl h'

/-- The resolver's error names its mode. -/
theorem resolve_error {o : Operand} {s : State} {m : Mode} (h : resolve o s = .error m) :
    m = o.mode ∧ (o = .imp ∨ o = .acc) := by
  cases o <;> simp_all [resolve, Operand.mode]

/-- The address depends on X, Y, PC and memory alone. -/
theorem resolve_congr {s t : State} (hx : s.x = t.x) (hy : s.y = t.y) (hp : s.pc = t.pc) (hm : s.mem = t.mem)
    (o : Operand) : resolve o s = resolve o t := by
  cases o <;> simp [resolve, State.zpPointer, State.jmpPointer, State.read8, hx, hy, hp, hm]

/-- The operand value depends on memory alone. -/
theorem operandValue_congr {s t : State} (hm : s.mem = t.mem) (o : Operand) (ea : Word) :
    operandValue o ea s = operandValue o ea t := by
  cases o <;> simp [operandValue, State.read8, hm]

@[simp] theorem finish_next (p : Word) (len : Nat) (s : State) :
    finish p len (.next s) = { s with pc := p + BitVec.ofNat 16 len } := rfl

@[simp] theorem finish_jump (p target : Word) (len : Nat) (s : State) :
    finish p len (.jump target s) = { s with pc := target } := rfl

/-- An instruction of mode IMP or ACC always completes. -/
theorem runUnresolved_eq (handler : State → Flow) (s : State) :
    runUnresolved handler s = .next (finish s.pc 0 (handler s)) := rfl

/-- An instruction whose operand resolves always completes. -/
theorem runResolved_ok {o : Operand} {s : State} {ea : Word} (h : resolve o s = .ok ea) (handler : Word → State → Flow) :
    runResolved o handler s = .next (finish s.pc o.mode.operandLen (handler ea s)) := by
  rw [runResolved, h]

/-- Everything an instruction with a resolved operand can answer. -/
theorem runResolved_cases {o : Operand} {s t : State} {handler : Word → State → Flow}
    (h : runResolved o handler s = .next t) :
    (∃ ea, resolve o s = .ok ea ∧ t = finish s.pc o.mode.operandLen (handler ea s)) ∨
    (∃ m, resolve o s = .error m ∧
      t = s.raiseFault (.unsupportedAddressingMode m) (s.read8 (s.pc - 1#16)) (s.pc - 1#16)) := by
  rw [runResolved] at h
  split at h
  · rename_i ea he
    exact .inl ⟨ea, he, (Host.Outcome.next.inj h).symm⟩
  · rename_i m hm
    exact .inr ⟨m, hm, (Host.Outcome.next.inj h).symm⟩

end Sys2Proof.Machine
end

