-- ==== Sys2Proof/Laws/Memory.lean ====
section
/-! SUPPORT. The laws of memory as a canonical list: a read after a write, that every write keeps the canonical form, and that
canonical memories which read alike are equal. -/

namespace Sys2Proof.Machine

theorem Memory.wfFrom_cons (lo k : Nat) (v : Byte) (rest : Memory) :
    Memory.wfFrom lo ((k, v) :: rest) = true ↔
      lo ≤ k ∧ k < 65536 ∧ v ≠ 0x00#8 ∧ Memory.wfFrom (k + 1) rest = true := by
  simp only [Memory.wfFrom, Bool.and_eq_true, decide_eq_true_eq, Bool.not_eq_true', beq_eq_false_iff_ne, and_assoc]
  exact Iff.rfl

theorem Memory.wfFrom_mono {lo lo' : Nat} (h : lo' ≤ lo) {m : Memory} (hm : Memory.wfFrom lo m = true) :
    Memory.wfFrom lo' m = true := by
  cases m with
  | nil => rfl
  | cons c rest =>
    obtain ⟨k, v⟩ := c
    rw [Memory.wfFrom_cons] at hm ⊢
    exact ⟨by omega, hm.2⟩

/-- Below the first listed address nothing is listed. -/
theorem Memory.read_below {lo a : Nat} (ha : a < lo) {m : Memory} (hm : Memory.wfFrom lo m = true) :
    Memory.read m a = 0x00#8 := by
  induction m generalizing lo with
  | nil => rfl
  | cons c rest ih =>
    obtain ⟨k, v⟩ := c
    rw [Memory.wfFrom_cons] at hm
    rw [Memory.read, if_neg (by omega)]
    exact ih (by omega) hm.2.2.2

theorem Memory.write_wfFrom {lo a : Nat} {m : Memory} (b : Byte) (hlo : lo ≤ a) (ha : a < 65536)
    (hm : Memory.wfFrom lo m = true) : Memory.wfFrom lo (Memory.write m a b) = true := by
  induction m generalizing lo with
  | nil =>
    by_cases hb : b = 0x00#8
    · simp [Memory.write, hb, Memory.wfFrom]
    · rw [Memory.write, if_neg hb, Memory.wfFrom_cons]
      exact ⟨hlo, ha, hb, rfl⟩
  | cons c rest ih =>
    obtain ⟨k, v⟩ := c
    have h := (Memory.wfFrom_cons lo k v rest).1 hm
    rw [Memory.write]
    split_ifs with h1 h2 h3 h4
    · exact hm
    · rw [Memory.wfFrom_cons, Memory.wfFrom_cons]
      exact ⟨hlo, ha, h2, by omega, h.2⟩
    · exact Memory.wfFrom_mono (by omega) h.2.2.2
    · subst h3
      rw [Memory.wfFrom_cons]
      exact ⟨hlo, ha, h4, h.2.2.2⟩
    · rw [Memory.wfFrom_cons]
      exact ⟨h.1, h.2.1, h.2.2.1, ih (by omega) h.2.2.2⟩

/-- A write keeps the canonical form. -/
theorem Memory.write_wf {m : Memory} {a : Nat} (b : Byte) (ha : a < 65536) (hm : m.wf = true) :
    (Memory.write m a b).wf = true :=
  Memory.write_wfFrom b (Nat.zero_le a) ha hm

theorem Memory.read_write_from {lo : Nat} {m : Memory} (a a' : Nat) (b : Byte) (hm : Memory.wfFrom lo m = true) :
    Memory.read (Memory.write m a b) a' = if a' = a then b else Memory.read m a' := by
  induction m generalizing lo with
  | nil =>
    by_cases hb : b = 0x00#8 <;> by_cases h : a' = a <;> simp [Memory.write, Memory.read, hb, h]
  | cons c rest ih =>
    obtain ⟨k, v⟩ := c
    have h := (Memory.wfFrom_cons lo k v rest).1 hm
    have hlow : a' < k + 1 → Memory.read rest a' = 0x00#8 := fun hlt => Memory.read_below hlt h.2.2.2
    rw [Memory.write]
    by_cases h1 : a < k
    · by_cases hb : b = 0x00#8 <;> by_cases ha : a' = a
      · rw [if_pos h1, if_pos hb, if_pos ha, hb, Memory.read, if_neg (by omega)]
        exact hlow (by omega)
      · rw [if_pos h1, if_pos hb, if_neg ha]
      · rw [if_pos h1, if_neg hb, if_pos ha, Memory.read, if_pos ha]
      · rw [if_pos h1, if_neg hb, if_neg ha, Memory.read, if_neg ha]
    · rw [if_neg h1]
      by_cases h2 : a = k
      · subst h2
        by_cases hb : b = 0x00#8 <;> by_cases ha : a' = a
        · rw [if_pos rfl, if_pos hb, if_pos ha, hb]
          exact hlow (by omega)
        · rw [if_pos rfl, if_pos hb, if_neg ha, Memory.read, if_neg ha]
        · rw [if_pos rfl, if_neg hb, if_pos ha, Memory.read, if_pos ha]
        · rw [if_pos rfl, if_neg hb, if_neg ha, Memory.read, if_neg ha, Memory.read, if_neg ha]
      · rw [if_neg h2, Memory.read, Memory.read, ih h.2.2.2]
        by_cases hk : a' = k
        · rw [if_pos hk, if_pos hk, if_neg (by omega)]
        · rw [if_neg hk, if_neg hk]

/-- What an address reads as after a write. -/
theorem Memory.read_write {m : Memory} (a a' : Nat) (b : Byte) (hm : m.wf = true) :
    Memory.read (Memory.write m a b) a' = if a' = a then b else Memory.read m a' :=
  Memory.read_write_from a a' b hm

/-- Canonical memories that read alike are equal data. -/
theorem Memory.ext_from {lo : Nat} {m m' : Memory} (hm : Memory.wfFrom lo m = true) (hm' : Memory.wfFrom lo m' = true)
    (h : ∀ a, Memory.read m a = Memory.read m' a) : m = m' := by
  induction m generalizing lo m' with
  | nil =>
    cases m' with
    | nil => rfl
    | cons c rest =>
      obtain ⟨k, v⟩ := c
      have := h k
      rw [Memory.wfFrom_cons] at hm'
      simp only [Memory.read, if_pos] at this
      exact absurd this.symm hm'.2.2.1
  | cons c rest ih =>
    obtain ⟨k, v⟩ := c
    have hk := (Memory.wfFrom_cons lo k v rest).1 hm
    cases m' with
    | nil =>
      have := h k
      simp only [Memory.read, if_pos] at this
      exact absurd this hk.2.2.1
    | cons c' rest' =>
      obtain ⟨k', v'⟩ := c'
      have hk' := (Memory.wfFrom_cons lo k' v' rest').1 hm'
      have hkk : k = k' := by
        by_contra hne
        rcases Nat.lt_or_gt_of_ne hne with hlt | hgt
        · have := h k
          rw [Memory.read, if_pos rfl, Memory.read, if_neg (by omega),
            Memory.read_below (by omega) hk'.2.2.2] at this
          exact hk.2.2.1 this
        · have := h k'
          rw [Memory.read, if_neg (by omega), Memory.read_below (by omega) hk.2.2.2, Memory.read, if_pos rfl] at this
          exact hk'.2.2.1 this.symm
      subst hkk
      have hv : v = v' := by simpa [Memory.read] using h k
      subst hv
      have hrest : rest = rest' := by
        refine ih hk.2.2.2 hk'.2.2.2 fun a => ?_
        by_cases ha : a = k
        · subst ha
          rw [Memory.read_below (by omega) hk.2.2.2, Memory.read_below (by omega) hk'.2.2.2]
        · have := h a
          rwa [Memory.read, if_neg ha, Memory.read, if_neg ha] at this
      rw [hrest]

theorem Memory.ext_of_wf {m m' : Memory} (hm : m.wf = true) (hm' : m'.wf = true)
    (h : ∀ a, Memory.read m a = Memory.read m' a) : m = m' :=
  Memory.ext_from hm hm' h

/-! ## The memory bus -/

/-- A byte after a byte write. -/
theorem State.read8_write8 {s : State} (hs : s.mem.wf = true) (a a' : Word) (b : Byte) :
    (s.write8 a b).read8 a' = if a' = a then b else s.read8 a' := by
  simp only [State.read8, State.write8, State.setMem, Memory.read_write _ _ _ hs, ← BitVec.toNat_eq]

theorem State.write8_wf {s : State} (hs : s.mem.wf = true) (a : Word) (b : Byte) : (s.write8 a b).mem.wf = true :=
  Memory.write_wf b a.isLt hs

theorem State.write16_wf {s : State} (hs : s.mem.wf = true) (a w : Word) : (s.write16 a w).mem.wf = true :=
  State.write8_wf (State.write8_wf hs a _) _ _

theorem State.push_wf {s : State} (hs : s.mem.wf = true) (b : Byte) : (s.push b).mem.wf = true :=
  State.write8_wf hs _ b

theorem State.push16_wf {s : State} (hs : s.mem.wf = true) (w : Word) : (s.push16 w).mem.wf = true :=
  State.push_wf (State.push_wf hs _) _

theorem State.writeBytes_wf {s : State} (hs : s.mem.wf = true) (a : Word) (bytes : List Byte) :
    (s.writeBytes a bytes).mem.wf = true := by
  induction bytes generalizing s a with
  | nil => exact hs
  | cons b rest ih => exact ih (State.write8_wf hs a b) _

theorem reset_mem_wf : State.reset.mem.wf = true := rfl

end Sys2Proof.Machine
end

