-- ==== Sys2Proof/Laws/State.lean ====
section
/-! SUPPORT. Beside State: what each field is after each update and each shared operation, one lemma per field, so that no proof
unfolds an update. -/

namespace Sys2Proof.Machine

/-! ## The field updates -/

@[simp] theorem State.setA_a (s : State) (v : Byte) : (s.setA v).a = v := rfl
@[simp] theorem State.setA_x (s : State) (v : Byte) : (s.setA v).x = s.x := rfl
@[simp] theorem State.setA_y (s : State) (v : Byte) : (s.setA v).y = s.y := rfl
@[simp] theorem State.setA_sp (s : State) (v : Byte) : (s.setA v).sp = s.sp := rfl
@[simp] theorem State.setA_p (s : State) (v : Byte) : (s.setA v).p = s.p := rfl
@[simp] theorem State.setA_pc (s : State) (v : Byte) : (s.setA v).pc = s.pc := rfl
@[simp] theorem State.setA_mem (s : State) (v : Byte) : (s.setA v).mem = s.mem := rfl
@[simp] theorem State.setA_run (s : State) (v : Byte) : (s.setA v).run = s.run := rfl
@[simp] theorem State.setA_fault (s : State) (v : Byte) : (s.setA v).fault = s.fault := rfl
@[simp] theorem State.setA_irqLine (s : State) (v : Byte) : (s.setA v).irqLine = s.irqLine := rfl
@[simp] theorem State.setA_nmiPending (s : State) (v : Byte) : (s.setA v).nmiPending = s.nmiPending := rfl
@[simp] theorem State.setA_stopReq (s : State) (v : Byte) : (s.setA v).stopReq = s.stopReq := rfl
@[simp] theorem State.setA_cfg (s : State) (v : Byte) : (s.setA v).cfg = s.cfg := rfl

@[simp] theorem State.setX_a (s : State) (v : Byte) : (s.setX v).a = s.a := rfl
@[simp] theorem State.setX_x (s : State) (v : Byte) : (s.setX v).x = v := rfl
@[simp] theorem State.setX_y (s : State) (v : Byte) : (s.setX v).y = s.y := rfl
@[simp] theorem State.setX_sp (s : State) (v : Byte) : (s.setX v).sp = s.sp := rfl
@[simp] theorem State.setX_p (s : State) (v : Byte) : (s.setX v).p = s.p := rfl
@[simp] theorem State.setX_pc (s : State) (v : Byte) : (s.setX v).pc = s.pc := rfl
@[simp] theorem State.setX_mem (s : State) (v : Byte) : (s.setX v).mem = s.mem := rfl
@[simp] theorem State.setX_run (s : State) (v : Byte) : (s.setX v).run = s.run := rfl
@[simp] theorem State.setX_fault (s : State) (v : Byte) : (s.setX v).fault = s.fault := rfl
@[simp] theorem State.setX_irqLine (s : State) (v : Byte) : (s.setX v).irqLine = s.irqLine := rfl
@[simp] theorem State.setX_nmiPending (s : State) (v : Byte) : (s.setX v).nmiPending = s.nmiPending := rfl
@[simp] theorem State.setX_stopReq (s : State) (v : Byte) : (s.setX v).stopReq = s.stopReq := rfl
@[simp] theorem State.setX_cfg (s : State) (v : Byte) : (s.setX v).cfg = s.cfg := rfl

@[simp] theorem State.setY_a (s : State) (v : Byte) : (s.setY v).a = s.a := rfl
@[simp] theorem State.setY_x (s : State) (v : Byte) : (s.setY v).x = s.x := rfl
@[simp] theorem State.setY_y (s : State) (v : Byte) : (s.setY v).y = v := rfl
@[simp] theorem State.setY_sp (s : State) (v : Byte) : (s.setY v).sp = s.sp := rfl
@[simp] theorem State.setY_p (s : State) (v : Byte) : (s.setY v).p = s.p := rfl
@[simp] theorem State.setY_pc (s : State) (v : Byte) : (s.setY v).pc = s.pc := rfl
@[simp] theorem State.setY_mem (s : State) (v : Byte) : (s.setY v).mem = s.mem := rfl
@[simp] theorem State.setY_run (s : State) (v : Byte) : (s.setY v).run = s.run := rfl
@[simp] theorem State.setY_fault (s : State) (v : Byte) : (s.setY v).fault = s.fault := rfl
@[simp] theorem State.setY_irqLine (s : State) (v : Byte) : (s.setY v).irqLine = s.irqLine := rfl
@[simp] theorem State.setY_nmiPending (s : State) (v : Byte) : (s.setY v).nmiPending = s.nmiPending := rfl
@[simp] theorem State.setY_stopReq (s : State) (v : Byte) : (s.setY v).stopReq = s.stopReq := rfl
@[simp] theorem State.setY_cfg (s : State) (v : Byte) : (s.setY v).cfg = s.cfg := rfl

@[simp] theorem State.setSp_a (s : State) (v : Byte) : (s.setSp v).a = s.a := rfl
@[simp] theorem State.setSp_x (s : State) (v : Byte) : (s.setSp v).x = s.x := rfl
@[simp] theorem State.setSp_y (s : State) (v : Byte) : (s.setSp v).y = s.y := rfl
@[simp] theorem State.setSp_sp (s : State) (v : Byte) : (s.setSp v).sp = v := rfl
@[simp] theorem State.setSp_p (s : State) (v : Byte) : (s.setSp v).p = s.p := rfl
@[simp] theorem State.setSp_pc (s : State) (v : Byte) : (s.setSp v).pc = s.pc := rfl
@[simp] theorem State.setSp_mem (s : State) (v : Byte) : (s.setSp v).mem = s.mem := rfl
@[simp] theorem State.setSp_run (s : State) (v : Byte) : (s.setSp v).run = s.run := rfl
@[simp] theorem State.setSp_fault (s : State) (v : Byte) : (s.setSp v).fault = s.fault := rfl
@[simp] theorem State.setSp_irqLine (s : State) (v : Byte) : (s.setSp v).irqLine = s.irqLine := rfl
@[simp] theorem State.setSp_nmiPending (s : State) (v : Byte) : (s.setSp v).nmiPending = s.nmiPending := rfl
@[simp] theorem State.setSp_stopReq (s : State) (v : Byte) : (s.setSp v).stopReq = s.stopReq := rfl
@[simp] theorem State.setSp_cfg (s : State) (v : Byte) : (s.setSp v).cfg = s.cfg := rfl

@[simp] theorem State.setP_a (s : State) (v : Byte) : (s.setP v).a = s.a := rfl
@[simp] theorem State.setP_x (s : State) (v : Byte) : (s.setP v).x = s.x := rfl
@[simp] theorem State.setP_y (s : State) (v : Byte) : (s.setP v).y = s.y := rfl
@[simp] theorem State.setP_sp (s : State) (v : Byte) : (s.setP v).sp = s.sp := rfl
@[simp] theorem State.setP_p (s : State) (v : Byte) : (s.setP v).p = v := rfl
@[simp] theorem State.setP_pc (s : State) (v : Byte) : (s.setP v).pc = s.pc := rfl
@[simp] theorem State.setP_mem (s : State) (v : Byte) : (s.setP v).mem = s.mem := rfl
@[simp] theorem State.setP_run (s : State) (v : Byte) : (s.setP v).run = s.run := rfl
@[simp] theorem State.setP_fault (s : State) (v : Byte) : (s.setP v).fault = s.fault := rfl
@[simp] theorem State.setP_irqLine (s : State) (v : Byte) : (s.setP v).irqLine = s.irqLine := rfl
@[simp] theorem State.setP_nmiPending (s : State) (v : Byte) : (s.setP v).nmiPending = s.nmiPending := rfl
@[simp] theorem State.setP_stopReq (s : State) (v : Byte) : (s.setP v).stopReq = s.stopReq := rfl
@[simp] theorem State.setP_cfg (s : State) (v : Byte) : (s.setP v).cfg = s.cfg := rfl

@[simp] theorem State.setPc_a (s : State) (v : Word) : (s.setPc v).a = s.a := rfl
@[simp] theorem State.setPc_x (s : State) (v : Word) : (s.setPc v).x = s.x := rfl
@[simp] theorem State.setPc_y (s : State) (v : Word) : (s.setPc v).y = s.y := rfl
@[simp] theorem State.setPc_sp (s : State) (v : Word) : (s.setPc v).sp = s.sp := rfl
@[simp] theorem State.setPc_p (s : State) (v : Word) : (s.setPc v).p = s.p := rfl
@[simp] theorem State.setPc_pc (s : State) (v : Word) : (s.setPc v).pc = v := rfl
@[simp] theorem State.setPc_mem (s : State) (v : Word) : (s.setPc v).mem = s.mem := rfl
@[simp] theorem State.setPc_run (s : State) (v : Word) : (s.setPc v).run = s.run := rfl
@[simp] theorem State.setPc_fault (s : State) (v : Word) : (s.setPc v).fault = s.fault := rfl
@[simp] theorem State.setPc_irqLine (s : State) (v : Word) : (s.setPc v).irqLine = s.irqLine := rfl
@[simp] theorem State.setPc_nmiPending (s : State) (v : Word) : (s.setPc v).nmiPending = s.nmiPending := rfl
@[simp] theorem State.setPc_stopReq (s : State) (v : Word) : (s.setPc v).stopReq = s.stopReq := rfl
@[simp] theorem State.setPc_cfg (s : State) (v : Word) : (s.setPc v).cfg = s.cfg := rfl

@[simp] theorem State.setMem_a (s : State) (v : Memory) : (s.setMem v).a = s.a := rfl
@[simp] theorem State.setMem_x (s : State) (v : Memory) : (s.setMem v).x = s.x := rfl
@[simp] theorem State.setMem_y (s : State) (v : Memory) : (s.setMem v).y = s.y := rfl
@[simp] theorem State.setMem_sp (s : State) (v : Memory) : (s.setMem v).sp = s.sp := rfl
@[simp] theorem State.setMem_p (s : State) (v : Memory) : (s.setMem v).p = s.p := rfl
@[simp] theorem State.setMem_pc (s : State) (v : Memory) : (s.setMem v).pc = s.pc := rfl
@[simp] theorem State.setMem_mem (s : State) (v : Memory) : (s.setMem v).mem = v := rfl
@[simp] theorem State.setMem_run (s : State) (v : Memory) : (s.setMem v).run = s.run := rfl
@[simp] theorem State.setMem_fault (s : State) (v : Memory) : (s.setMem v).fault = s.fault := rfl
@[simp] theorem State.setMem_irqLine (s : State) (v : Memory) : (s.setMem v).irqLine = s.irqLine := rfl
@[simp] theorem State.setMem_nmiPending (s : State) (v : Memory) : (s.setMem v).nmiPending = s.nmiPending := rfl
@[simp] theorem State.setMem_stopReq (s : State) (v : Memory) : (s.setMem v).stopReq = s.stopReq := rfl
@[simp] theorem State.setMem_cfg (s : State) (v : Memory) : (s.setMem v).cfg = s.cfg := rfl

@[simp] theorem State.setRun_a (s : State) (v : RunState) : (s.setRun v).a = s.a := rfl
@[simp] theorem State.setRun_x (s : State) (v : RunState) : (s.setRun v).x = s.x := rfl
@[simp] theorem State.setRun_y (s : State) (v : RunState) : (s.setRun v).y = s.y := rfl
@[simp] theorem State.setRun_sp (s : State) (v : RunState) : (s.setRun v).sp = s.sp := rfl
@[simp] theorem State.setRun_p (s : State) (v : RunState) : (s.setRun v).p = s.p := rfl
@[simp] theorem State.setRun_pc (s : State) (v : RunState) : (s.setRun v).pc = s.pc := rfl
@[simp] theorem State.setRun_mem (s : State) (v : RunState) : (s.setRun v).mem = s.mem := rfl
@[simp] theorem State.setRun_run (s : State) (v : RunState) : (s.setRun v).run = v := rfl
@[simp] theorem State.setRun_fault (s : State) (v : RunState) : (s.setRun v).fault = s.fault := rfl
@[simp] theorem State.setRun_irqLine (s : State) (v : RunState) : (s.setRun v).irqLine = s.irqLine := rfl
@[simp] theorem State.setRun_nmiPending (s : State) (v : RunState) : (s.setRun v).nmiPending = s.nmiPending := rfl
@[simp] theorem State.setRun_stopReq (s : State) (v : RunState) : (s.setRun v).stopReq = s.stopReq := rfl
@[simp] theorem State.setRun_cfg (s : State) (v : RunState) : (s.setRun v).cfg = s.cfg := rfl

@[simp] theorem State.setFault_a (s : State) (v : Option FaultRecord) : (s.setFault v).a = s.a := rfl
@[simp] theorem State.setFault_x (s : State) (v : Option FaultRecord) : (s.setFault v).x = s.x := rfl
@[simp] theorem State.setFault_y (s : State) (v : Option FaultRecord) : (s.setFault v).y = s.y := rfl
@[simp] theorem State.setFault_sp (s : State) (v : Option FaultRecord) : (s.setFault v).sp = s.sp := rfl
@[simp] theorem State.setFault_p (s : State) (v : Option FaultRecord) : (s.setFault v).p = s.p := rfl
@[simp] theorem State.setFault_pc (s : State) (v : Option FaultRecord) : (s.setFault v).pc = s.pc := rfl
@[simp] theorem State.setFault_mem (s : State) (v : Option FaultRecord) : (s.setFault v).mem = s.mem := rfl
@[simp] theorem State.setFault_run (s : State) (v : Option FaultRecord) : (s.setFault v).run = s.run := rfl
@[simp] theorem State.setFault_fault (s : State) (v : Option FaultRecord) : (s.setFault v).fault = v := rfl
@[simp] theorem State.setFault_irqLine (s : State) (v : Option FaultRecord) : (s.setFault v).irqLine = s.irqLine := rfl
@[simp] theorem State.setFault_nmiPending (s : State) (v : Option FaultRecord) : (s.setFault v).nmiPending = s.nmiPending := rfl
@[simp] theorem State.setFault_stopReq (s : State) (v : Option FaultRecord) : (s.setFault v).stopReq = s.stopReq := rfl
@[simp] theorem State.setFault_cfg (s : State) (v : Option FaultRecord) : (s.setFault v).cfg = s.cfg := rfl

@[simp] theorem State.setIrqLine_a (s : State) (v : Bool) : (s.setIrqLine v).a = s.a := rfl
@[simp] theorem State.setIrqLine_x (s : State) (v : Bool) : (s.setIrqLine v).x = s.x := rfl
@[simp] theorem State.setIrqLine_y (s : State) (v : Bool) : (s.setIrqLine v).y = s.y := rfl
@[simp] theorem State.setIrqLine_sp (s : State) (v : Bool) : (s.setIrqLine v).sp = s.sp := rfl
@[simp] theorem State.setIrqLine_p (s : State) (v : Bool) : (s.setIrqLine v).p = s.p := rfl
@[simp] theorem State.setIrqLine_pc (s : State) (v : Bool) : (s.setIrqLine v).pc = s.pc := rfl
@[simp] theorem State.setIrqLine_mem (s : State) (v : Bool) : (s.setIrqLine v).mem = s.mem := rfl
@[simp] theorem State.setIrqLine_run (s : State) (v : Bool) : (s.setIrqLine v).run = s.run := rfl
@[simp] theorem State.setIrqLine_fault (s : State) (v : Bool) : (s.setIrqLine v).fault = s.fault := rfl
@[simp] theorem State.setIrqLine_irqLine (s : State) (v : Bool) : (s.setIrqLine v).irqLine = v := rfl
@[simp] theorem State.setIrqLine_nmiPending (s : State) (v : Bool) : (s.setIrqLine v).nmiPending = s.nmiPending := rfl
@[simp] theorem State.setIrqLine_stopReq (s : State) (v : Bool) : (s.setIrqLine v).stopReq = s.stopReq := rfl
@[simp] theorem State.setIrqLine_cfg (s : State) (v : Bool) : (s.setIrqLine v).cfg = s.cfg := rfl

@[simp] theorem State.setNmiPending_a (s : State) (v : Bool) : (s.setNmiPending v).a = s.a := rfl
@[simp] theorem State.setNmiPending_x (s : State) (v : Bool) : (s.setNmiPending v).x = s.x := rfl
@[simp] theorem State.setNmiPending_y (s : State) (v : Bool) : (s.setNmiPending v).y = s.y := rfl
@[simp] theorem State.setNmiPending_sp (s : State) (v : Bool) : (s.setNmiPending v).sp = s.sp := rfl
@[simp] theorem State.setNmiPending_p (s : State) (v : Bool) : (s.setNmiPending v).p = s.p := rfl
@[simp] theorem State.setNmiPending_pc (s : State) (v : Bool) : (s.setNmiPending v).pc = s.pc := rfl
@[simp] theorem State.setNmiPending_mem (s : State) (v : Bool) : (s.setNmiPending v).mem = s.mem := rfl
@[simp] theorem State.setNmiPending_run (s : State) (v : Bool) : (s.setNmiPending v).run = s.run := rfl
@[simp] theorem State.setNmiPending_fault (s : State) (v : Bool) : (s.setNmiPending v).fault = s.fault := rfl
@[simp] theorem State.setNmiPending_irqLine (s : State) (v : Bool) : (s.setNmiPending v).irqLine = s.irqLine := rfl
@[simp] theorem State.setNmiPending_nmiPending (s : State) (v : Bool) : (s.setNmiPending v).nmiPending = v := rfl
@[simp] theorem State.setNmiPending_stopReq (s : State) (v : Bool) : (s.setNmiPending v).stopReq = s.stopReq := rfl
@[simp] theorem State.setNmiPending_cfg (s : State) (v : Bool) : (s.setNmiPending v).cfg = s.cfg := rfl

@[simp] theorem State.setStopReq_a (s : State) (v : Bool) : (s.setStopReq v).a = s.a := rfl
@[simp] theorem State.setStopReq_x (s : State) (v : Bool) : (s.setStopReq v).x = s.x := rfl
@[simp] theorem State.setStopReq_y (s : State) (v : Bool) : (s.setStopReq v).y = s.y := rfl
@[simp] theorem State.setStopReq_sp (s : State) (v : Bool) : (s.setStopReq v).sp = s.sp := rfl
@[simp] theorem State.setStopReq_p (s : State) (v : Bool) : (s.setStopReq v).p = s.p := rfl
@[simp] theorem State.setStopReq_pc (s : State) (v : Bool) : (s.setStopReq v).pc = s.pc := rfl
@[simp] theorem State.setStopReq_mem (s : State) (v : Bool) : (s.setStopReq v).mem = s.mem := rfl
@[simp] theorem State.setStopReq_run (s : State) (v : Bool) : (s.setStopReq v).run = s.run := rfl
@[simp] theorem State.setStopReq_fault (s : State) (v : Bool) : (s.setStopReq v).fault = s.fault := rfl
@[simp] theorem State.setStopReq_irqLine (s : State) (v : Bool) : (s.setStopReq v).irqLine = s.irqLine := rfl
@[simp] theorem State.setStopReq_nmiPending (s : State) (v : Bool) : (s.setStopReq v).nmiPending = s.nmiPending := rfl
@[simp] theorem State.setStopReq_stopReq (s : State) (v : Bool) : (s.setStopReq v).stopReq = v := rfl
@[simp] theorem State.setStopReq_cfg (s : State) (v : Bool) : (s.setStopReq v).cfg = s.cfg := rfl

@[simp] theorem State.setCfg_a (s : State) (v : Config) : (s.setCfg v).a = s.a := rfl
@[simp] theorem State.setCfg_x (s : State) (v : Config) : (s.setCfg v).x = s.x := rfl
@[simp] theorem State.setCfg_y (s : State) (v : Config) : (s.setCfg v).y = s.y := rfl
@[simp] theorem State.setCfg_sp (s : State) (v : Config) : (s.setCfg v).sp = s.sp := rfl
@[simp] theorem State.setCfg_p (s : State) (v : Config) : (s.setCfg v).p = s.p := rfl
@[simp] theorem State.setCfg_pc (s : State) (v : Config) : (s.setCfg v).pc = s.pc := rfl
@[simp] theorem State.setCfg_mem (s : State) (v : Config) : (s.setCfg v).mem = s.mem := rfl
@[simp] theorem State.setCfg_run (s : State) (v : Config) : (s.setCfg v).run = s.run := rfl
@[simp] theorem State.setCfg_fault (s : State) (v : Config) : (s.setCfg v).fault = s.fault := rfl
@[simp] theorem State.setCfg_irqLine (s : State) (v : Config) : (s.setCfg v).irqLine = s.irqLine := rfl
@[simp] theorem State.setCfg_nmiPending (s : State) (v : Config) : (s.setCfg v).nmiPending = s.nmiPending := rfl
@[simp] theorem State.setCfg_stopReq (s : State) (v : Config) : (s.setCfg v).stopReq = s.stopReq := rfl
@[simp] theorem State.setCfg_cfg (s : State) (v : Config) : (s.setCfg v).cfg = v := rfl

/-! ## The shared operations -/

@[simp] theorem State.write8_a (s : State) (addr : Word) (b : Byte) : (s.write8 addr b).a = s.a := by simp [State.write8]
@[simp] theorem State.write8_x (s : State) (addr : Word) (b : Byte) : (s.write8 addr b).x = s.x := by simp [State.write8]
@[simp] theorem State.write8_y (s : State) (addr : Word) (b : Byte) : (s.write8 addr b).y = s.y := by simp [State.write8]
@[simp] theorem State.write8_sp (s : State) (addr : Word) (b : Byte) : (s.write8 addr b).sp = s.sp := by simp [State.write8]
@[simp] theorem State.write8_p (s : State) (addr : Word) (b : Byte) : (s.write8 addr b).p = s.p := by simp [State.write8]
@[simp] theorem State.write8_pc (s : State) (addr : Word) (b : Byte) : (s.write8 addr b).pc = s.pc := by simp [State.write8]
@[simp] theorem State.write8_mem (s : State) (addr : Word) (b : Byte) :
    (s.write8 addr b).mem = Memory.write s.mem addr.toNat b := by simp [State.write8]
@[simp] theorem State.write8_run (s : State) (addr : Word) (b : Byte) : (s.write8 addr b).run = s.run := by simp [State.write8]
@[simp] theorem State.write8_fault (s : State) (addr : Word) (b : Byte) : (s.write8 addr b).fault = s.fault := by simp [State.write8]
@[simp] theorem State.write8_irqLine (s : State) (addr : Word) (b : Byte) : (s.write8 addr b).irqLine = s.irqLine := by simp [State.write8]
@[simp] theorem State.write8_nmiPending (s : State) (addr : Word) (b : Byte) : (s.write8 addr b).nmiPending = s.nmiPending := by simp [State.write8]
@[simp] theorem State.write8_stopReq (s : State) (addr : Word) (b : Byte) : (s.write8 addr b).stopReq = s.stopReq := by simp [State.write8]
@[simp] theorem State.write8_cfg (s : State) (addr : Word) (b : Byte) : (s.write8 addr b).cfg = s.cfg := by simp [State.write8]

@[simp] theorem State.write16_a (s : State) (addr w : Word) : (s.write16 addr w).a = s.a := by simp [State.write16]
@[simp] theorem State.write16_x (s : State) (addr w : Word) : (s.write16 addr w).x = s.x := by simp [State.write16]
@[simp] theorem State.write16_y (s : State) (addr w : Word) : (s.write16 addr w).y = s.y := by simp [State.write16]
@[simp] theorem State.write16_sp (s : State) (addr w : Word) : (s.write16 addr w).sp = s.sp := by simp [State.write16]
@[simp] theorem State.write16_p (s : State) (addr w : Word) : (s.write16 addr w).p = s.p := by simp [State.write16]
@[simp] theorem State.write16_pc (s : State) (addr w : Word) : (s.write16 addr w).pc = s.pc := by simp [State.write16]
@[simp] theorem State.write16_run (s : State) (addr w : Word) : (s.write16 addr w).run = s.run := by simp [State.write16]
@[simp] theorem State.write16_fault (s : State) (addr w : Word) : (s.write16 addr w).fault = s.fault := by simp [State.write16]
@[simp] theorem State.write16_irqLine (s : State) (addr w : Word) : (s.write16 addr w).irqLine = s.irqLine := by simp [State.write16]
@[simp] theorem State.write16_nmiPending (s : State) (addr w : Word) : (s.write16 addr w).nmiPending = s.nmiPending := by simp [State.write16]
@[simp] theorem State.write16_stopReq (s : State) (addr w : Word) : (s.write16 addr w).stopReq = s.stopReq := by simp [State.write16]
@[simp] theorem State.write16_cfg (s : State) (addr w : Word) : (s.write16 addr w).cfg = s.cfg := by simp [State.write16]

@[simp] theorem State.setFlag_a (s : State) (f : Flag) (v : Bool) : (s.setFlag f v).a = s.a := by simp [State.setFlag]
@[simp] theorem State.setFlag_x (s : State) (f : Flag) (v : Bool) : (s.setFlag f v).x = s.x := by simp [State.setFlag]
@[simp] theorem State.setFlag_y (s : State) (f : Flag) (v : Bool) : (s.setFlag f v).y = s.y := by simp [State.setFlag]
@[simp] theorem State.setFlag_sp (s : State) (f : Flag) (v : Bool) : (s.setFlag f v).sp = s.sp := by simp [State.setFlag]
@[simp] theorem State.setFlag_p (s : State) (f : Flag) (v : Bool) : (s.setFlag f v).p = putFlag f v s.p := by simp [State.setFlag]
@[simp] theorem State.setFlag_pc (s : State) (f : Flag) (v : Bool) : (s.setFlag f v).pc = s.pc := by simp [State.setFlag]
@[simp] theorem State.setFlag_mem (s : State) (f : Flag) (v : Bool) : (s.setFlag f v).mem = s.mem := by simp [State.setFlag]
@[simp] theorem State.setFlag_run (s : State) (f : Flag) (v : Bool) : (s.setFlag f v).run = s.run := by simp [State.setFlag]
@[simp] theorem State.setFlag_fault (s : State) (f : Flag) (v : Bool) : (s.setFlag f v).fault = s.fault := by simp [State.setFlag]
@[simp] theorem State.setFlag_irqLine (s : State) (f : Flag) (v : Bool) : (s.setFlag f v).irqLine = s.irqLine := by simp [State.setFlag]
@[simp] theorem State.setFlag_nmiPending (s : State) (f : Flag) (v : Bool) : (s.setFlag f v).nmiPending = s.nmiPending := by simp [State.setFlag]
@[simp] theorem State.setFlag_stopReq (s : State) (f : Flag) (v : Bool) : (s.setFlag f v).stopReq = s.stopReq := by simp [State.setFlag]
@[simp] theorem State.setFlag_cfg (s : State) (f : Flag) (v : Bool) : (s.setFlag f v).cfg = s.cfg := by simp [State.setFlag]

@[simp] theorem State.setZN_a (s : State) (v : Byte) : (s.setZN v).a = s.a := by simp [State.setZN]
@[simp] theorem State.setZN_x (s : State) (v : Byte) : (s.setZN v).x = s.x := by simp [State.setZN]
@[simp] theorem State.setZN_y (s : State) (v : Byte) : (s.setZN v).y = s.y := by simp [State.setZN]
@[simp] theorem State.setZN_sp (s : State) (v : Byte) : (s.setZN v).sp = s.sp := by simp [State.setZN]
@[simp] theorem State.setZN_p (s : State) (v : Byte) : (s.setZN v).p = putZN v s.p := by simp [State.setZN]
@[simp] theorem State.setZN_pc (s : State) (v : Byte) : (s.setZN v).pc = s.pc := by simp [State.setZN]
@[simp] theorem State.setZN_mem (s : State) (v : Byte) : (s.setZN v).mem = s.mem := by simp [State.setZN]
@[simp] theorem State.setZN_run (s : State) (v : Byte) : (s.setZN v).run = s.run := by simp [State.setZN]
@[simp] theorem State.setZN_fault (s : State) (v : Byte) : (s.setZN v).fault = s.fault := by simp [State.setZN]
@[simp] theorem State.setZN_irqLine (s : State) (v : Byte) : (s.setZN v).irqLine = s.irqLine := by simp [State.setZN]
@[simp] theorem State.setZN_nmiPending (s : State) (v : Byte) : (s.setZN v).nmiPending = s.nmiPending := by simp [State.setZN]
@[simp] theorem State.setZN_stopReq (s : State) (v : Byte) : (s.setZN v).stopReq = s.stopReq := by simp [State.setZN]
@[simp] theorem State.setZN_cfg (s : State) (v : Byte) : (s.setZN v).cfg = s.cfg := by simp [State.setZN]

@[simp] theorem State.push_a (s : State) (b : Byte) : (s.push b).a = s.a := by simp [State.push]
@[simp] theorem State.push_x (s : State) (b : Byte) : (s.push b).x = s.x := by simp [State.push]
@[simp] theorem State.push_y (s : State) (b : Byte) : (s.push b).y = s.y := by simp [State.push]
@[simp] theorem State.push_sp (s : State) (b : Byte) : (s.push b).sp = s.sp - 1#8 := by simp [State.push]
@[simp] theorem State.push_p (s : State) (b : Byte) : (s.push b).p = s.p := by simp [State.push]
@[simp] theorem State.push_pc (s : State) (b : Byte) : (s.push b).pc = s.pc := by simp [State.push]
@[simp] theorem State.push_mem (s : State) (b : Byte) :
    (s.push b).mem = Memory.write s.mem (stackAddr s.sp).toNat b := by simp [State.push]
@[simp] theorem State.push_run (s : State) (b : Byte) : (s.push b).run = s.run := by simp [State.push]
@[simp] theorem State.push_fault (s : State) (b : Byte) : (s.push b).fault = s.fault := by simp [State.push]
@[simp] theorem State.push_irqLine (s : State) (b : Byte) : (s.push b).irqLine = s.irqLine := by simp [State.push]
@[simp] theorem State.push_nmiPending (s : State) (b : Byte) : (s.push b).nmiPending = s.nmiPending := by simp [State.push]
@[simp] theorem State.push_stopReq (s : State) (b : Byte) : (s.push b).stopReq = s.stopReq := by simp [State.push]
@[simp] theorem State.push_cfg (s : State) (b : Byte) : (s.push b).cfg = s.cfg := by simp [State.push]

@[simp] theorem State.push16_a (s : State) (w : Word) : (s.push16 w).a = s.a := by simp [State.push16]
@[simp] theorem State.push16_x (s : State) (w : Word) : (s.push16 w).x = s.x := by simp [State.push16]
@[simp] theorem State.push16_y (s : State) (w : Word) : (s.push16 w).y = s.y := by simp [State.push16]
@[simp] theorem State.push16_sp (s : State) (w : Word) : (s.push16 w).sp = s.sp - 1#8 - 1#8 := by simp [State.push16]
@[simp] theorem State.push16_p (s : State) (w : Word) : (s.push16 w).p = s.p := by simp [State.push16]
@[simp] theorem State.push16_pc (s : State) (w : Word) : (s.push16 w).pc = s.pc := by simp [State.push16]
@[simp] theorem State.push16_run (s : State) (w : Word) : (s.push16 w).run = s.run := by simp [State.push16]
@[simp] theorem State.push16_fault (s : State) (w : Word) : (s.push16 w).fault = s.fault := by simp [State.push16]
@[simp] theorem State.push16_irqLine (s : State) (w : Word) : (s.push16 w).irqLine = s.irqLine := by simp [State.push16]
@[simp] theorem State.push16_nmiPending (s : State) (w : Word) : (s.push16 w).nmiPending = s.nmiPending := by simp [State.push16]
@[simp] theorem State.push16_stopReq (s : State) (w : Word) : (s.push16 w).stopReq = s.stopReq := by simp [State.push16]
@[simp] theorem State.push16_cfg (s : State) (w : Word) : (s.push16 w).cfg = s.cfg := by simp [State.push16]

@[simp] theorem State.afterPull_a (s : State) : s.afterPull.a = s.a := by simp [State.afterPull]
@[simp] theorem State.afterPull_x (s : State) : s.afterPull.x = s.x := by simp [State.afterPull]
@[simp] theorem State.afterPull_y (s : State) : s.afterPull.y = s.y := by simp [State.afterPull]
@[simp] theorem State.afterPull_sp (s : State) : s.afterPull.sp = s.sp + 1#8 := by simp [State.afterPull]
@[simp] theorem State.afterPull_p (s : State) : s.afterPull.p = s.p := by simp [State.afterPull]
@[simp] theorem State.afterPull_pc (s : State) : s.afterPull.pc = s.pc := by simp [State.afterPull]
@[simp] theorem State.afterPull_mem (s : State) : s.afterPull.mem = s.mem := by simp [State.afterPull]
@[simp] theorem State.afterPull_run (s : State) : s.afterPull.run = s.run := by simp [State.afterPull]
@[simp] theorem State.afterPull_fault (s : State) : s.afterPull.fault = s.fault := by simp [State.afterPull]
@[simp] theorem State.afterPull_irqLine (s : State) : s.afterPull.irqLine = s.irqLine := by simp [State.afterPull]
@[simp] theorem State.afterPull_nmiPending (s : State) : s.afterPull.nmiPending = s.nmiPending := by simp [State.afterPull]
@[simp] theorem State.afterPull_stopReq (s : State) : s.afterPull.stopReq = s.stopReq := by simp [State.afterPull]
@[simp] theorem State.afterPull_cfg (s : State) : s.afterPull.cfg = s.cfg := by simp [State.afterPull]

@[simp] theorem State.afterPull16_a (s : State) : s.afterPull16.a = s.a := by simp [State.afterPull16]
@[simp] theorem State.afterPull16_x (s : State) : s.afterPull16.x = s.x := by simp [State.afterPull16]
@[simp] theorem State.afterPull16_y (s : State) : s.afterPull16.y = s.y := by simp [State.afterPull16]
@[simp] theorem State.afterPull16_sp (s : State) : s.afterPull16.sp = s.sp + 1#8 + 1#8 := by simp [State.afterPull16]
@[simp] theorem State.afterPull16_p (s : State) : s.afterPull16.p = s.p := by simp [State.afterPull16]
@[simp] theorem State.afterPull16_pc (s : State) : s.afterPull16.pc = s.pc := by simp [State.afterPull16]
@[simp] theorem State.afterPull16_mem (s : State) : s.afterPull16.mem = s.mem := by simp [State.afterPull16]
@[simp] theorem State.afterPull16_run (s : State) : s.afterPull16.run = s.run := by simp [State.afterPull16]
@[simp] theorem State.afterPull16_fault (s : State) : s.afterPull16.fault = s.fault := by simp [State.afterPull16]
@[simp] theorem State.afterPull16_irqLine (s : State) : s.afterPull16.irqLine = s.irqLine := by simp [State.afterPull16]
@[simp] theorem State.afterPull16_nmiPending (s : State) : s.afterPull16.nmiPending = s.nmiPending := by simp [State.afterPull16]
@[simp] theorem State.afterPull16_stopReq (s : State) : s.afterPull16.stopReq = s.stopReq := by simp [State.afterPull16]
@[simp] theorem State.afterPull16_cfg (s : State) : s.afterPull16.cfg = s.cfg := by simp [State.afterPull16]

@[simp] theorem State.raiseFault_a (s : State) (code : FaultCode) (opcode : Byte) (opAddr : Word) : (s.raiseFault code opcode opAddr).a = s.a := by simp [State.raiseFault]
@[simp] theorem State.raiseFault_x (s : State) (code : FaultCode) (opcode : Byte) (opAddr : Word) : (s.raiseFault code opcode opAddr).x = s.x := by simp [State.raiseFault]
@[simp] theorem State.raiseFault_y (s : State) (code : FaultCode) (opcode : Byte) (opAddr : Word) : (s.raiseFault code opcode opAddr).y = s.y := by simp [State.raiseFault]
@[simp] theorem State.raiseFault_sp (s : State) (code : FaultCode) (opcode : Byte) (opAddr : Word) : (s.raiseFault code opcode opAddr).sp = s.sp := by simp [State.raiseFault]
@[simp] theorem State.raiseFault_p (s : State) (code : FaultCode) (opcode : Byte) (opAddr : Word) : (s.raiseFault code opcode opAddr).p = s.p := by simp [State.raiseFault]
@[simp] theorem State.raiseFault_pc (s : State) (code : FaultCode) (opcode : Byte) (opAddr : Word) : (s.raiseFault code opcode opAddr).pc = s.pc := by simp [State.raiseFault]
@[simp] theorem State.raiseFault_mem (s : State) (code : FaultCode) (opcode : Byte) (opAddr : Word) : (s.raiseFault code opcode opAddr).mem = s.mem := by simp [State.raiseFault]
@[simp] theorem State.raiseFault_run (s : State) (code : FaultCode) (opcode : Byte) (opAddr : Word) : (s.raiseFault code opcode opAddr).run = .faulted := by simp [State.raiseFault]
@[simp] theorem State.raiseFault_fault (s : State) (code : FaultCode) (opcode : Byte) (opAddr : Word) :
    (s.raiseFault code opcode opAddr).fault = some { code := code, opcode := opcode, opAddr := opAddr } := by simp [State.raiseFault]
@[simp] theorem State.raiseFault_irqLine (s : State) (code : FaultCode) (opcode : Byte) (opAddr : Word) : (s.raiseFault code opcode opAddr).irqLine = s.irqLine := by simp [State.raiseFault]
@[simp] theorem State.raiseFault_nmiPending (s : State) (code : FaultCode) (opcode : Byte) (opAddr : Word) : (s.raiseFault code opcode opAddr).nmiPending = s.nmiPending := by simp [State.raiseFault]
@[simp] theorem State.raiseFault_stopReq (s : State) (code : FaultCode) (opcode : Byte) (opAddr : Word) : (s.raiseFault code opcode opAddr).stopReq = s.stopReq := by simp [State.raiseFault]
@[simp] theorem State.raiseFault_cfg (s : State) (code : FaultCode) (opcode : Byte) (opAddr : Word) : (s.raiseFault code opcode opAddr).cfg = s.cfg := by simp [State.raiseFault]

@[simp] theorem State.takeInterrupt_a (s : State) (k : Interrupt) : (s.takeInterrupt k).a = s.a := by simp [State.takeInterrupt]
@[simp] theorem State.takeInterrupt_x (s : State) (k : Interrupt) : (s.takeInterrupt k).x = s.x := by simp [State.takeInterrupt]
@[simp] theorem State.takeInterrupt_y (s : State) (k : Interrupt) : (s.takeInterrupt k).y = s.y := by simp [State.takeInterrupt]
@[simp] theorem State.takeInterrupt_sp (s : State) (k : Interrupt) :
    (s.takeInterrupt k).sp = s.sp - 1#8 - 1#8 - 1#8 := by simp [State.takeInterrupt]
@[simp] theorem State.takeInterrupt_p (s : State) (k : Interrupt) : (s.takeInterrupt k).p = putFlag .i true s.p := by simp [State.takeInterrupt]
@[simp] theorem State.takeInterrupt_mem (s : State) (k : Interrupt) :
    (s.takeInterrupt k).mem = ((s.push16 s.pc).push (pushedByInterrupt s.p)).mem := by simp [State.takeInterrupt]
@[simp] theorem State.takeInterrupt_run (s : State) (k : Interrupt) : (s.takeInterrupt k).run = s.run := by simp [State.takeInterrupt]
@[simp] theorem State.takeInterrupt_fault (s : State) (k : Interrupt) : (s.takeInterrupt k).fault = s.fault := by simp [State.takeInterrupt]
@[simp] theorem State.takeInterrupt_irqLine (s : State) (k : Interrupt) : (s.takeInterrupt k).irqLine = s.irqLine := by simp [State.takeInterrupt]
@[simp] theorem State.takeInterrupt_nmiPending (s : State) (k : Interrupt) :
    (s.takeInterrupt k).nmiPending = k.latchAfter s.nmiPending := by simp [State.takeInterrupt]
@[simp] theorem State.takeInterrupt_stopReq (s : State) (k : Interrupt) : (s.takeInterrupt k).stopReq = s.stopReq := by simp [State.takeInterrupt]
@[simp] theorem State.takeInterrupt_cfg (s : State) (k : Interrupt) : (s.takeInterrupt k).cfg = s.cfg := by simp [State.takeInterrupt]

@[simp] theorem State.stop_a (s : State) : s.stop.a = s.a := by simp [State.stop]
@[simp] theorem State.stop_x (s : State) : s.stop.x = s.x := by simp [State.stop]
@[simp] theorem State.stop_y (s : State) : s.stop.y = s.y := by simp [State.stop]
@[simp] theorem State.stop_sp (s : State) : s.stop.sp = s.sp := by simp [State.stop]
@[simp] theorem State.stop_p (s : State) : s.stop.p = s.p := by simp [State.stop]
@[simp] theorem State.stop_pc (s : State) : s.stop.pc = s.pc := by simp [State.stop]
@[simp] theorem State.stop_mem (s : State) : s.stop.mem = s.mem := by simp [State.stop]
@[simp] theorem State.stop_run (s : State) : s.stop.run = .halted := by simp [State.stop]
@[simp] theorem State.stop_fault (s : State) : s.stop.fault = s.fault := by simp [State.stop]
@[simp] theorem State.stop_irqLine (s : State) : s.stop.irqLine = s.irqLine := by simp [State.stop]
@[simp] theorem State.stop_nmiPending (s : State) : s.stop.nmiPending = s.nmiPending := by simp [State.stop]
@[simp] theorem State.stop_stopReq (s : State) : s.stop.stopReq = false := by simp [State.stop]
@[simp] theorem State.stop_cfg (s : State) : s.stop.cfg = s.cfg := by simp [State.stop]

@[simp] theorem State.halt_a (s : State) : s.halt.a = s.a := by simp [State.halt]
@[simp] theorem State.halt_x (s : State) : s.halt.x = s.x := by simp [State.halt]
@[simp] theorem State.halt_y (s : State) : s.halt.y = s.y := by simp [State.halt]
@[simp] theorem State.halt_sp (s : State) : s.halt.sp = s.sp := by simp [State.halt]
@[simp] theorem State.halt_p (s : State) : s.halt.p = s.p := by simp [State.halt]
@[simp] theorem State.halt_pc (s : State) : s.halt.pc = s.pc := by simp [State.halt]
@[simp] theorem State.halt_mem (s : State) : s.halt.mem = s.mem := by simp [State.halt]
@[simp] theorem State.halt_run (s : State) : s.halt.run = .halted := by simp [State.halt]
@[simp] theorem State.halt_fault (s : State) : s.halt.fault = s.fault := by simp [State.halt]
@[simp] theorem State.halt_irqLine (s : State) : s.halt.irqLine = s.irqLine := by simp [State.halt]
@[simp] theorem State.halt_nmiPending (s : State) : s.halt.nmiPending = s.nmiPending := by simp [State.halt]
@[simp] theorem State.halt_stopReq (s : State) : s.halt.stopReq = s.stopReq := by simp [State.halt]
@[simp] theorem State.halt_cfg (s : State) : s.halt.cfg = s.cfg := by simp [State.halt]

@[simp] theorem State.afterFetch_a (s : State) : s.afterFetch.a = s.a := by simp [State.afterFetch]
@[simp] theorem State.afterFetch_x (s : State) : s.afterFetch.x = s.x := by simp [State.afterFetch]
@[simp] theorem State.afterFetch_y (s : State) : s.afterFetch.y = s.y := by simp [State.afterFetch]
@[simp] theorem State.afterFetch_sp (s : State) : s.afterFetch.sp = s.sp := by simp [State.afterFetch]
@[simp] theorem State.afterFetch_p (s : State) : s.afterFetch.p = s.p := by simp [State.afterFetch]
@[simp] theorem State.afterFetch_pc (s : State) : s.afterFetch.pc = s.pc + 1#16 := by simp [State.afterFetch]
@[simp] theorem State.afterFetch_mem (s : State) : s.afterFetch.mem = s.mem := by simp [State.afterFetch]
@[simp] theorem State.afterFetch_run (s : State) : s.afterFetch.run = s.run := by simp [State.afterFetch]
@[simp] theorem State.afterFetch_fault (s : State) : s.afterFetch.fault = s.fault := by simp [State.afterFetch]
@[simp] theorem State.afterFetch_irqLine (s : State) : s.afterFetch.irqLine = s.irqLine := by simp [State.afterFetch]
@[simp] theorem State.afterFetch_nmiPending (s : State) : s.afterFetch.nmiPending = s.nmiPending := by simp [State.afterFetch]
@[simp] theorem State.afterFetch_stopReq (s : State) : s.afterFetch.stopReq = s.stopReq := by simp [State.afterFetch]
@[simp] theorem State.afterFetch_cfg (s : State) : s.afterFetch.cfg = s.cfg := by simp [State.afterFetch]

/-! ## States and reads -/

/-- Two states with the same fields are equal. -/
theorem State.ext_fields {s t : State} (ha : s.a = t.a) (hx : s.x = t.x) (hy : s.y = t.y) (hsp : s.sp = t.sp)
    (hp : s.p = t.p) (hpc : s.pc = t.pc) (hm : s.mem = t.mem) (hr : s.run = t.run) (hf : s.fault = t.fault)
    (hi : s.irqLine = t.irqLine) (hn : s.nmiPending = t.nmiPending) (hs : s.stopReq = t.stopReq) (hc : s.cfg = t.cfg) :
    s = t := by
  cases s; cases t; simp_all

/-- What a state reads depends on its memory alone. -/
theorem State.read8_congr {s t : State} (h : s.mem = t.mem) (a : Word) : s.read8 a = t.read8 a := by
  rw [State.read8, State.read8, h]

theorem State.read16_congr {s t : State} (h : s.mem = t.mem) (a : Word) : s.read16 a = t.read16 a := by
  rw [State.read16, State.read16, State.read8_congr h, State.read8_congr h]

end Sys2Proof.Machine
end

