-- ==== Sys2Proof/Laws/Ops.lean ====
section
/-! SUPPORT. One lemma for each shared operation of Machine/Ops.lean that says everything it does. -/

namespace Sys2Proof.Machine

/-! ## Bytes and words -/

theorem toNat_mkWord (hi lo : Byte) : (mkWord hi lo).toNat = 256 * hi.toNat + lo.toNat := by
  have h := lo.isLt
  rw [mkWord, BitVec.toNat_append, Nat.shiftLeft_eq, Nat.or_comm]
  rw [Nat.or_comm, ← Nat.shiftLeft_eq, ← Nat.shiftLeft_add_eq_or_of_lt h, Nat.shiftLeft_eq]
  omega

theorem toNat_loByte (w : Word) : (loByte w).toNat = w.toNat % 256 := by
  simp [loByte, BitVec.extractLsb'_toNat]

theorem toNat_hiByte (w : Word) : (hiByte w).toNat = w.toNat / 256 := by
  have h := w.isLt
  rw [hiByte, BitVec.extractLsb'_toNat, Nat.shiftRight_eq_div_pow]
  omega

@[simp] theorem mkWord_hiByte_loByte (w : Word) : mkWord (hiByte w) (loByte w) = w := by
  apply BitVec.eq_of_toNat_eq
  rw [toNat_mkWord, toNat_loByte, toNat_hiByte]
  omega

@[simp] theorem loByte_mkWord (hi lo : Byte) : loByte (mkWord hi lo) = lo := by
  apply BitVec.eq_of_toNat_eq
  have h := lo.isLt
  rw [toNat_loByte, toNat_mkWord]
  omega

@[simp] theorem hiByte_mkWord (hi lo : Byte) : hiByte (mkWord hi lo) = hi := by
  apply BitVec.eq_of_toNat_eq
  have h := lo.isLt
  rw [toNat_hiByte, toNat_mkWord]
  omega

/-! ## Memory bus -/

/-- A word write is two byte writes; everything but memory is kept. -/
theorem State.write16_eq (s : State) (a w : Word) : s.write16 a w = { s with mem := (s.write16 a w).mem } := rfl

theorem State.write8_eq (s : State) (a : Word) (b : Byte) : s.write8 a b = { s with mem := (s.write8 a b).mem } := rfl

/-- Everything a byte image written to memory leaves alone. -/
theorem State.writeBytes_eq (s : State) (a : Word) (bytes : List Byte) :
    s.writeBytes a bytes = { s with mem := (s.writeBytes a bytes).mem } := by
  induction bytes generalizing s a with
  | nil => rfl
  | cons b rest ih =>
    rw [State.writeBytes]
    conv_lhs => rw [ih]
    rfl

/-! ## The stack -/

theorem toNat_stackAddr (sp : Byte) : (stackAddr sp).toNat = 256 + sp.toNat := by
  have h := sp.isLt
  simp only [stackAddr, Config.stackBase, zext16, BitVec.toNat_add, BitVec.toNat_ofNat, BitVec.toNat_setWidth]
  omega

theorem stackAddr_inj {a b : Byte} : stackAddr a = stackAddr b ↔ a = b := by
  constructor
  · intro h
    apply BitVec.eq_of_toNat_eq
    have := congrArg BitVec.toNat h
    rw [toNat_stackAddr, toNat_stackAddr] at this
    omega
  · rintro rfl
    rfl

/-- A push: SP and one byte of memory, nothing else. -/
theorem State.push_eq (s : State) (b : Byte) :
    s.push b = { s with sp := s.sp - 1#8, mem := Memory.write s.mem (stackAddr s.sp).toNat b } := rfl

theorem State.read8_push {s : State} (hs : s.mem.wf = true) (b : Byte) (a : Word) :
    (s.push b).read8 a = if a = stackAddr s.sp then b else s.read8 a :=
  State.read8_write8 hs _ a b

/-- A pull reads memory and changes SP alone. -/
theorem State.afterPull_eq (s : State) : s.afterPull = { s with sp := s.sp + 1#8 } := rfl

theorem State.pulled_push {s : State} (hs : s.mem.wf = true) (b : Byte) : (s.push b).pulled = b := by
  have h : s.sp - 1#8 + 1#8 = s.sp := BitVec.sub_add_cancel s.sp 1#8
  rw [State.pulled, State.read8_push hs, State.push_eq]
  simp only [h, if_true]

/-- A word push: SP and memory, nothing else. -/
theorem State.push16_eq (s : State) (w : Word) :
    s.push16 w = { s with sp := s.sp - 1#8 - 1#8, mem := (s.push16 w).mem } := rfl

theorem State.read8_push16 {s : State} (hs : s.mem.wf = true) (w a : Word) :
    (s.push16 w).read8 a =
      if a = stackAddr (s.sp - 1#8) then loByte w else if a = stackAddr s.sp then hiByte w else s.read8 a := by
  rw [State.push16, State.read8_push (State.push_wf hs _), State.read8_push hs]
  rfl

/-! ## Exceptions -/

/-- Raising a fault: RUN and FAULT, nothing else. -/
theorem State.raiseFault_eq (s : State) (code : FaultCode) (opcode : Byte) (opAddr : Word) :
    s.raiseFault code opcode opAddr =
      { s with run := .faulted, fault := some { code := code, opcode := opcode, opAddr := opAddr } } := rfl

/-- Taking an interrupt: SP, the I bit, PC, the NMI latch and the three stack bytes, nothing else. -/
theorem State.takeInterrupt_eq (s : State) (k : Interrupt) :
    s.takeInterrupt k = { s with
      sp := s.sp - 1#8 - 1#8 - 1#8
      p := putFlag .i true s.p
      pc := ((s.push16 s.pc).push (pushedByInterrupt s.p)).read16 k.vector
      nmiPending := k.latchAfter s.nmiPending
      mem := ((s.push16 s.pc).push (pushedByInterrupt s.p)).mem } := by
  apply State.ext_fields <;> simp
  exact State.read16_congr rfl _

theorem State.takeInterrupt_wf {s : State} (hs : s.mem.wf = true) (k : Interrupt) :
    (s.takeInterrupt k).mem.wf = true := by
  rw [State.takeInterrupt_mem]
  exact State.push_wf (State.push16_wf hs _) _

theorem State.read8_takeInterrupt {s : State} (hs : s.mem.wf = true) (k : Interrupt) (a : Word) :
    (s.takeInterrupt k).read8 a =
      if a = stackAddr (s.sp - 1#8 - 1#8) then pushedByInterrupt s.p
      else if a = stackAddr (s.sp - 1#8) then loByte s.pc
      else if a = stackAddr s.sp then hiByte s.pc else s.read8 a := by
  rw [State.read8_congr (State.takeInterrupt_mem s k), State.read8_push (State.push16_wf hs s.pc),
    State.read8_push16 hs, State.push16_sp]

/-- A return from an interrupt: P, SP and PC, nothing else. -/
theorem State.returnFromInterrupt_eq (s : State) :
    s.returnFromInterrupt =
      .jump (mkWord (s.read8 (stackAddr (s.sp + 1#8 + 1#8 + 1#8))) (s.read8 (stackAddr (s.sp + 1#8 + 1#8))))
        { s with sp := s.sp + 1#8 + 1#8 + 1#8, p := pulledStatus (s.read8 (stackAddr (s.sp + 1#8))) s.p } := by
  unfold State.returnFromInterrupt State.pulled16 State.pulled State.afterPull16 State.afterPull State.setP State.setSp
  simp only [State.read8]

end Sys2Proof.Machine
end

