-- ==== Sys2Proof/Laws/Instructions.lean ====
section
/-! SUPPORT. One lemma for each operation that several meanings share: the whole next state it answers where its operand
resolves. -/

namespace Sys2Proof.Machine

variable {o : Operand} {s : State} {ea : Word}

theorem load_eq (h : resolve o s = .ok ea) (put : State → Byte → State) :
    load put o s = .next (((put s (operandValue o ea s)).setZN (operandValue o ea s)).setPc
      (s.pc + BitVec.ofNat 16 o.mode.operandLen)) :=
  runResolved_ok h _

theorem store_eq (h : resolve o s = .ok ea) (value : State → Byte) :
    store value o s = .next ((s.write8 ea (value s)).setPc (s.pc + BitVec.ofNat 16 o.mode.operandLen)) :=
  runResolved_ok h _

theorem changeMemory_eq (h : resolve o s = .ok ea) (change : Byte → Byte) :
    changeMemory change o s = .next (((s.write8 ea (change (s.read8 ea))).setZN (change (s.read8 ea))).setPc
      (s.pc + BitVec.ofNat 16 o.mode.operandLen)) :=
  runResolved_ok h _

theorem arithmetic_eq (h : resolve o s = .ok ea) (compute : Config → Byte → Byte → Byte → AluResult) :
    arithmetic compute o s = .next
      (((s.setA (compute s.cfg s.p s.a (operandValue o ea s)).value).setP
        (putNVZC (compute s.cfg s.p s.a (operandValue o ea s)) s.p)).setPc (s.pc + BitVec.ofNat 16 o.mode.operandLen)) :=
  runResolved_ok h _

theorem logical_eq (h : resolve o s = .ok ea) (combine : Byte → Byte → Byte) :
    logical combine o s = .next
      (((s.setA (combine s.a (operandValue o ea s))).setZN (combine s.a (operandValue o ea s))).setPc
        (s.pc + BitVec.ofNat 16 o.mode.operandLen)) :=
  runResolved_ok h _

theorem compare_eq (h : resolve o s = .ok ea) (register : State → Byte) :
    compare register o s = .next
      ((s.setP (putCompare (register s) (operandValue o ea s) s.p)).setPc (s.pc + BitVec.ofNat 16 o.mode.operandLen)) :=
  runResolved_ok h _

theorem bitTest_eq (h : resolve o s = .ok ea) :
    bitTest o s = .next
      ((s.setP (putBitTest s.a (operandValue o ea s) s.p)).setPc (s.pc + BitVec.ofNat 16 o.mode.operandLen)) :=
  runResolved_ok h _

theorem shiftMemory_eq (h : resolve o s = .ok ea) (compute : Byte → Bool → ShiftResult) :
    shiftMemory compute o s = .next
      (((s.write8 ea (compute (s.read8 ea) (getFlag .c s.p)).value).setP
        (putShift (compute (s.read8 ea) (getFlag .c s.p)) s.p)).setPc (s.pc + BitVec.ofNat 16 o.mode.operandLen)) :=
  runResolved_ok h _

theorem shiftAccumulator_eq (compute : Byte → Bool → ShiftResult) (s : State) :
    shiftAccumulator compute s = .next
      ((s.setA (compute s.a (getFlag .c s.p)).value).setP (putShift (compute s.a (getFlag .c s.p)) s.p)) := by
  rw [shiftAccumulator, runUnresolved_eq]
  exact congrArg Host.Outcome.next (State.ext_fields rfl rfl rfl rfl rfl (by simp) rfl rfl rfl rfl rfl rfl rfl)

theorem forceFlag_eq (f : Flag) (value : Bool) (s : State) :
    forceFlag f value s = .next (s.setFlag f value) := by
  rw [forceFlag, runUnresolved_eq]
  exact congrArg Host.Outcome.next (State.ext_fields rfl rfl rfl rfl rfl (by simp) rfl rfl rfl rfl rfl rfl rfl)

theorem jump_eq (h : resolve o s = .ok ea) : jump o s = .next (s.setPc ea) :=
  runResolved_ok h _

theorem jumpSubroutine_eq (h : resolve o s = .ok ea) :
    jumpSubroutine o s = .next ((s.push16 (s.pc + 1#16)).setPc ea) :=
  runResolved_ok h _

/-- A branch changes PC alone. -/
theorem branch_eq (f : Flag) (value : Bool) (off8 : Byte) (s : State) :
    branch f value (.rel off8) s = .next
      (s.setPc (if getFlag f s.p = value then s.pc + 1#16 + sext16 off8 else s.pc + 1#16)) := by
  have h : resolve (.rel off8) s = .ok (s.pc + 1#16 + sext16 off8) := rfl
  rw [branch, runResolved_ok h]
  split_ifs <;> rfl

/-- Every instruction completes: an operand that the engine resolves has an address (30_encoding.md R104). -/
theorem runResolved_next (h : o ≠ .imp) (h' : o ≠ .acc) (handler : Word → State → Flow) (s : State) :
    ∃ t, runResolved o handler s = .next t := by
  obtain ⟨ea, hea⟩ := resolve_ok h h' s
  exact ⟨_, runResolved_ok hea handler⟩

end Sys2Proof.Machine
end

