-- ==== Sys2Proof/Laws/PerInstr.lean ====
section
/-! SUPPORT. Per-instruction statements about the syntax.  EncodedLength: the encoding of an instruction is as long as its
descriptor says, one byte and the operand bytes of its mode (30_encoding.md R90, R95, R106). -/

namespace Sys2Proof.Laws.EncodedLength

/-- The encoding of `i` has one opcode byte and the operand bytes of `i`'s mode. -/
def Statement (i : Instr) : Prop := (encode i).length = 1 + i.mode.operandLen

theorem brk : Statement .brk := rfl
theorem ldaImm (imm8 : Byte) : Statement (.ldaImm imm8) := rfl
theorem ldaZp (zp8 : Byte) : Statement (.ldaZp zp8) := rfl
theorem ldaZpx (zp8 : Byte) : Statement (.ldaZpx zp8) := rfl
theorem ldaAbs (addr : Word) : Statement (.ldaAbs addr) := rfl
theorem ldaAbsx (addr : Word) : Statement (.ldaAbsx addr) := rfl
theorem ldaAbsy (addr : Word) : Statement (.ldaAbsy addr) := rfl
theorem ldaIndx (zp8 : Byte) : Statement (.ldaIndx zp8) := rfl
theorem ldaIndy (zp8 : Byte) : Statement (.ldaIndy zp8) := rfl
theorem ldxImm (imm8 : Byte) : Statement (.ldxImm imm8) := rfl
theorem ldxZp (zp8 : Byte) : Statement (.ldxZp zp8) := rfl
theorem ldxZpy (zp8 : Byte) : Statement (.ldxZpy zp8) := rfl
theorem ldxAbs (addr : Word) : Statement (.ldxAbs addr) := rfl
theorem ldxAbsy (addr : Word) : Statement (.ldxAbsy addr) := rfl
theorem ldyImm (imm8 : Byte) : Statement (.ldyImm imm8) := rfl
theorem ldyZp (zp8 : Byte) : Statement (.ldyZp zp8) := rfl
theorem ldyZpx (zp8 : Byte) : Statement (.ldyZpx zp8) := rfl
theorem ldyAbs (addr : Word) : Statement (.ldyAbs addr) := rfl
theorem ldyAbsx (addr : Word) : Statement (.ldyAbsx addr) := rfl
theorem staZp (zp8 : Byte) : Statement (.staZp zp8) := rfl
theorem staZpx (zp8 : Byte) : Statement (.staZpx zp8) := rfl
theorem staAbs (addr : Word) : Statement (.staAbs addr) := rfl
theorem staAbsx (addr : Word) : Statement (.staAbsx addr) := rfl
theorem staAbsy (addr : Word) : Statement (.staAbsy addr) := rfl
theorem staIndx (zp8 : Byte) : Statement (.staIndx zp8) := rfl
theorem staIndy (zp8 : Byte) : Statement (.staIndy zp8) := rfl
theorem stxZp (zp8 : Byte) : Statement (.stxZp zp8) := rfl
theorem stxZpy (zp8 : Byte) : Statement (.stxZpy zp8) := rfl
theorem stxAbs (addr : Word) : Statement (.stxAbs addr) := rfl
theorem styZp (zp8 : Byte) : Statement (.styZp zp8) := rfl
theorem styZpx (zp8 : Byte) : Statement (.styZpx zp8) := rfl
theorem styAbs (addr : Word) : Statement (.styAbs addr) := rfl
theorem tax : Statement .tax := rfl
theorem tay : Statement .tay := rfl
theorem txa : Statement .txa := rfl
theorem tya : Statement .tya := rfl
theorem tsx : Statement .tsx := rfl
theorem txs : Statement .txs := rfl
theorem inx : Statement .inx := rfl
theorem iny : Statement .iny := rfl
theorem dex : Statement .dex := rfl
theorem dey : Statement .dey := rfl
theorem incZp (zp8 : Byte) : Statement (.incZp zp8) := rfl
theorem incZpx (zp8 : Byte) : Statement (.incZpx zp8) := rfl
theorem incAbs (addr : Word) : Statement (.incAbs addr) := rfl
theorem incAbsx (addr : Word) : Statement (.incAbsx addr) := rfl
theorem decZp (zp8 : Byte) : Statement (.decZp zp8) := rfl
theorem decZpx (zp8 : Byte) : Statement (.decZpx zp8) := rfl
theorem decAbs (addr : Word) : Statement (.decAbs addr) := rfl
theorem decAbsx (addr : Word) : Statement (.decAbsx addr) := rfl
theorem adcImm (imm8 : Byte) : Statement (.adcImm imm8) := rfl
theorem adcZp (zp8 : Byte) : Statement (.adcZp zp8) := rfl
theorem adcZpx (zp8 : Byte) : Statement (.adcZpx zp8) := rfl
theorem adcAbs (addr : Word) : Statement (.adcAbs addr) := rfl
theorem adcAbsx (addr : Word) : Statement (.adcAbsx addr) := rfl
theorem adcAbsy (addr : Word) : Statement (.adcAbsy addr) := rfl
theorem adcIndx (zp8 : Byte) : Statement (.adcIndx zp8) := rfl
theorem adcIndy (zp8 : Byte) : Statement (.adcIndy zp8) := rfl
theorem sbcImm (imm8 : Byte) : Statement (.sbcImm imm8) := rfl
theorem sbcZp (zp8 : Byte) : Statement (.sbcZp zp8) := rfl
theorem sbcZpx (zp8 : Byte) : Statement (.sbcZpx zp8) := rfl
theorem sbcAbs (addr : Word) : Statement (.sbcAbs addr) := rfl
theorem sbcAbsx (addr : Word) : Statement (.sbcAbsx addr) := rfl
theorem sbcAbsy (addr : Word) : Statement (.sbcAbsy addr) := rfl
theorem sbcIndx (zp8 : Byte) : Statement (.sbcIndx zp8) := rfl
theorem sbcIndy (zp8 : Byte) : Statement (.sbcIndy zp8) := rfl
theorem andImm (imm8 : Byte) : Statement (.andImm imm8) := rfl
theorem andZp (zp8 : Byte) : Statement (.andZp zp8) := rfl
theorem andZpx (zp8 : Byte) : Statement (.andZpx zp8) := rfl
theorem andAbs (addr : Word) : Statement (.andAbs addr) := rfl
theorem andAbsx (addr : Word) : Statement (.andAbsx addr) := rfl
theorem andAbsy (addr : Word) : Statement (.andAbsy addr) := rfl
theorem andIndx (zp8 : Byte) : Statement (.andIndx zp8) := rfl
theorem andIndy (zp8 : Byte) : Statement (.andIndy zp8) := rfl
theorem oraImm (imm8 : Byte) : Statement (.oraImm imm8) := rfl
theorem oraZp (zp8 : Byte) : Statement (.oraZp zp8) := rfl
theorem oraZpx (zp8 : Byte) : Statement (.oraZpx zp8) := rfl
theorem oraAbs (addr : Word) : Statement (.oraAbs addr) := rfl
theorem oraAbsx (addr : Word) : Statement (.oraAbsx addr) := rfl
theorem oraAbsy (addr : Word) : Statement (.oraAbsy addr) := rfl
theorem oraIndx (zp8 : Byte) : Statement (.oraIndx zp8) := rfl
theorem oraIndy (zp8 : Byte) : Statement (.oraIndy zp8) := rfl
theorem eorImm (imm8 : Byte) : Statement (.eorImm imm8) := rfl
theorem eorZp (zp8 : Byte) : Statement (.eorZp zp8) := rfl
theorem eorZpx (zp8 : Byte) : Statement (.eorZpx zp8) := rfl
theorem eorAbs (addr : Word) : Statement (.eorAbs addr) := rfl
theorem eorAbsx (addr : Word) : Statement (.eorAbsx addr) := rfl
theorem eorAbsy (addr : Word) : Statement (.eorAbsy addr) := rfl
theorem eorIndx (zp8 : Byte) : Statement (.eorIndx zp8) := rfl
theorem eorIndy (zp8 : Byte) : Statement (.eorIndy zp8) := rfl
theorem cmpImm (imm8 : Byte) : Statement (.cmpImm imm8) := rfl
theorem cmpZp (zp8 : Byte) : Statement (.cmpZp zp8) := rfl
theorem cmpZpx (zp8 : Byte) : Statement (.cmpZpx zp8) := rfl
theorem cmpAbs (addr : Word) : Statement (.cmpAbs addr) := rfl
theorem cmpAbsx (addr : Word) : Statement (.cmpAbsx addr) := rfl
theorem cmpAbsy (addr : Word) : Statement (.cmpAbsy addr) := rfl
theorem cmpIndx (zp8 : Byte) : Statement (.cmpIndx zp8) := rfl
theorem cmpIndy (zp8 : Byte) : Statement (.cmpIndy zp8) := rfl
theorem cpxImm (imm8 : Byte) : Statement (.cpxImm imm8) := rfl
theorem cpxZp (zp8 : Byte) : Statement (.cpxZp zp8) := rfl
theorem cpxAbs (addr : Word) : Statement (.cpxAbs addr) := rfl
theorem cpyImm (imm8 : Byte) : Statement (.cpyImm imm8) := rfl
theorem cpyZp (zp8 : Byte) : Statement (.cpyZp zp8) := rfl
theorem cpyAbs (addr : Word) : Statement (.cpyAbs addr) := rfl
theorem bitZp (zp8 : Byte) : Statement (.bitZp zp8) := rfl
theorem bitAbs (addr : Word) : Statement (.bitAbs addr) := rfl
theorem aslAcc : Statement .aslAcc := rfl
theorem aslZp (zp8 : Byte) : Statement (.aslZp zp8) := rfl
theorem aslZpx (zp8 : Byte) : Statement (.aslZpx zp8) := rfl
theorem aslAbs (addr : Word) : Statement (.aslAbs addr) := rfl
theorem aslAbsx (addr : Word) : Statement (.aslAbsx addr) := rfl
theorem lsrAcc : Statement .lsrAcc := rfl
theorem lsrZp (zp8 : Byte) : Statement (.lsrZp zp8) := rfl
theorem lsrZpx (zp8 : Byte) : Statement (.lsrZpx zp8) := rfl
theorem lsrAbs (addr : Word) : Statement (.lsrAbs addr) := rfl
theorem lsrAbsx (addr : Word) : Statement (.lsrAbsx addr) := rfl
theorem rolAcc : Statement .rolAcc := rfl
theorem rolZp (zp8 : Byte) : Statement (.rolZp zp8) := rfl
theorem rolZpx (zp8 : Byte) : Statement (.rolZpx zp8) := rfl
theorem rolAbs (addr : Word) : Statement (.rolAbs addr) := rfl
theorem rolAbsx (addr : Word) : Statement (.rolAbsx addr) := rfl
theorem rorAcc : Statement .rorAcc := rfl
theorem rorZp (zp8 : Byte) : Statement (.rorZp zp8) := rfl
theorem rorZpx (zp8 : Byte) : Statement (.rorZpx zp8) := rfl
theorem rorAbs (addr : Word) : Statement (.rorAbs addr) := rfl
theorem rorAbsx (addr : Word) : Statement (.rorAbsx addr) := rfl
theorem jmpAbs (addr : Word) : Statement (.jmpAbs addr) := rfl
theorem jmpInd (addr : Word) : Statement (.jmpInd addr) := rfl
theorem jsr (addr : Word) : Statement (.jsr addr) := rfl
theorem rts : Statement .rts := rfl
theorem bpl (off8 : Byte) : Statement (.bpl off8) := rfl
theorem bmi (off8 : Byte) : Statement (.bmi off8) := rfl
theorem bvc (off8 : Byte) : Statement (.bvc off8) := rfl
theorem bvs (off8 : Byte) : Statement (.bvs off8) := rfl
theorem bcc (off8 : Byte) : Statement (.bcc off8) := rfl
theorem bcs (off8 : Byte) : Statement (.bcs off8) := rfl
theorem bne (off8 : Byte) : Statement (.bne off8) := rfl
theorem beq (off8 : Byte) : Statement (.beq off8) := rfl
theorem pha : Statement .pha := rfl
theorem pla : Statement .pla := rfl
theorem php : Statement .php := rfl
theorem plp : Statement .plp := rfl
theorem clc : Statement .clc := rfl
theorem sec : Statement .sec := rfl
theorem cli : Statement .cli := rfl
theorem sei : Statement .sei := rfl
theorem cld : Statement .cld := rfl
theorem sed : Statement .sed := rfl
theorem clv : Statement .clv := rfl
theorem nop : Statement .nop := rfl
theorem rti : Statement .rti := rfl

end Sys2Proof.Laws.EncodedLength
end

