-- ==== Sys2Proof/Machine/Assembly.lean ====
section
/-! DEFINITION. The assembler syntax of 30_encoding.md R113 as a printing function; there are no pseudo-instructions (R114). -/

namespace Sys2Proof.Machine

/-- The three letters of a mnemonic (30_encoding.md R111). -/
def mnemonicText : Mnemonic → List Char
  | .brk => ['B', 'R', 'K']
  | .lda => ['L', 'D', 'A']
  | .ldx => ['L', 'D', 'X']
  | .ldy => ['L', 'D', 'Y']
  | .sta => ['S', 'T', 'A']
  | .stx => ['S', 'T', 'X']
  | .sty => ['S', 'T', 'Y']
  | .tax => ['T', 'A', 'X']
  | .tay => ['T', 'A', 'Y']
  | .txa => ['T', 'X', 'A']
  | .tya => ['T', 'Y', 'A']
  | .tsx => ['T', 'S', 'X']
  | .txs => ['T', 'X', 'S']
  | .inx => ['I', 'N', 'X']
  | .iny => ['I', 'N', 'Y']
  | .dex => ['D', 'E', 'X']
  | .dey => ['D', 'E', 'Y']
  | .inc => ['I', 'N', 'C']
  | .dec => ['D', 'E', 'C']
  | .adc => ['A', 'D', 'C']
  | .sbc => ['S', 'B', 'C']
  | .and => ['A', 'N', 'D']
  | .ora => ['O', 'R', 'A']
  | .eor => ['E', 'O', 'R']
  | .cmp => ['C', 'M', 'P']
  | .cpx => ['C', 'P', 'X']
  | .cpy => ['C', 'P', 'Y']
  | .bit => ['B', 'I', 'T']
  | .asl => ['A', 'S', 'L']
  | .lsr => ['L', 'S', 'R']
  | .rol => ['R', 'O', 'L']
  | .ror => ['R', 'O', 'R']
  | .jmp => ['J', 'M', 'P']
  | .jsr => ['J', 'S', 'R']
  | .rts => ['R', 'T', 'S']
  | .bpl => ['B', 'P', 'L']
  | .bmi => ['B', 'M', 'I']
  | .bvc => ['B', 'V', 'C']
  | .bvs => ['B', 'V', 'S']
  | .bcc => ['B', 'C', 'C']
  | .bcs => ['B', 'C', 'S']
  | .bne => ['B', 'N', 'E']
  | .beq => ['B', 'E', 'Q']
  | .pha => ['P', 'H', 'A']
  | .pla => ['P', 'L', 'A']
  | .php => ['P', 'H', 'P']
  | .plp => ['P', 'L', 'P']
  | .clc => ['C', 'L', 'C']
  | .sec => ['S', 'E', 'C']
  | .cli => ['C', 'L', 'I']
  | .sei => ['S', 'E', 'I']
  | .cld => ['C', 'L', 'D']
  | .sed => ['S', 'E', 'D']
  | .clv => ['C', 'L', 'V']
  | .nop => ['N', 'O', 'P']
  | .rti => ['R', 'T', 'I']

/-- The hexadecimal digit of a number below 16. -/
def hexDigit (n : Nat) : Char :=
  ['0', '1', '2', '3', '4', '5', '6', '7', '8', '9', 'A', 'B', 'C', 'D', 'E', 'F'].getD n '?'

/-- `$nn`. -/
def hexByte (b : Byte) : List Char := ['$', hexDigit (b.toNat / 16), hexDigit (b.toNat % 16)]

/-- `$nnnn`. -/
def hexWord (w : Word) : List Char :=
  ['$', hexDigit (w.toNat / 4096), hexDigit (w.toNat / 256 % 16), hexDigit (w.toNat / 16 % 16), hexDigit (w.toNat % 16)]

/-- A number below 1000 in decimal, without leading zeros. -/
def decimalText (n : Nat) : List Char :=
  if n < 10 then [hexDigit n]
  else if n < 100 then [hexDigit (n / 10), hexDigit (n % 10)]
  else [hexDigit (n / 100), hexDigit (n / 10 % 10), hexDigit (n % 10)]

/-- `*+d` or `*-d`, with `off8 = d - 2` (30_encoding.md R113). -/
def relativeText (off8 : Byte) : List Char :=
  let d := off8.toInt + 2
  if d < 0 then ['*', '-'] ++ decimalText d.natAbs else ['*', '+'] ++ decimalText d.natAbs

/-- An operand by its mode (30_encoding.md R113). -/
def operandText : Operand → List Char
  | .imp => []
  | .acc => [' ', 'A']
  | .imm b => [' ', '#'] ++ hexByte b
  | .zp b => ' ' :: hexByte b
  | .zpx b => ' ' :: hexByte b ++ [',', 'X']
  | .zpy b => ' ' :: hexByte b ++ [',', 'Y']
  | .abs w => ' ' :: hexWord w
  | .absx w => ' ' :: hexWord w ++ [',', 'X']
  | .absy w => ' ' :: hexWord w ++ [',', 'Y']
  | .ind w => [' ', '('] ++ hexWord w ++ [')']
  | .indx b => [' ', '('] ++ hexByte b ++ [',', 'X', ')']
  | .indy b => [' ', '('] ++ hexByte b ++ [')', ',', 'Y']
  | .rel b => ' ' :: relativeText b

/-- An instruction in the syntax of 30_encoding.md R113. -/
def assembly (i : Instr) : List Char := mnemonicText i.mnemonic ++ operandText i.operand

end Sys2Proof.Machine
end

