-- ==== Sys2Proof/Machine/Timing.lean ====
section
/-! DEFINITION. The informative NMOS cycle counts of 70_reset_and_hazards.md R360.  No rule reads them and no step calls
anything in this file (log 15). -/

namespace Sys2Proof.Machine

/-- A base cycle count with the marks of the table of R360: `+` (`pageCross`, one more if the indexed address crosses a page)
and `++` (`branch`, one more if taken and one more again if the target is on another page). -/
structure CycleCount where
  base : Nat
  pageCross : Bool
  branch : Bool
  deriving DecidableEq, Repr

/-- A plain count of the table. -/
def plainCycles (n : Nat) : Option CycleCount := some { base := n, pageCross := false, branch := false }

/-- The row shape of the reading instructions of R360. -/
def readCycles : Mode → Option CycleCount
  | .imm => plainCycles 2
  | .zp => plainCycles 3
  | .zpx | .zpy | .abs => plainCycles 4
  | .absx | .absy => some { base := 4, pageCross := true, branch := false }
  | .indx => plainCycles 6
  | .indy => some { base := 5, pageCross := true, branch := false }
  | .imp | .acc | .rel | .ind => none

/-- The row shape of STA, STX and STY. -/
def storeCycles : Mode → Option CycleCount
  | .zp => plainCycles 3
  | .zpx | .zpy | .abs => plainCycles 4
  | .absx | .absy => plainCycles 5
  | .indx | .indy => plainCycles 6
  | .imp | .imm | .acc | .rel | .ind => none

/-- The row shape of the read-modify-write instructions, with their accumulator form. -/
def modifyCycles : Mode → Option CycleCount
  | .acc => plainCycles 2
  | .zp => plainCycles 5
  | .zpx | .abs => plainCycles 6
  | .absx => plainCycles 7
  | .imp | .imm | .zpy | .absy | .indx | .indy | .rel | .ind => none

/-- The count of an instruction in the table of R360. -/
def nmosCycles (i : Instr) : Option CycleCount :=
  match i.mnemonic with
  | .lda | .ldx | .ldy | .adc | .sbc | .and | .ora | .eor | .cmp | .cpx | .cpy | .bit => readCycles i.mode
  | .sta | .stx | .sty => storeCycles i.mode
  | .inc | .dec | .asl | .lsr | .rol | .ror => modifyCycles i.mode
  | .bpl | .bmi | .bvc | .bvs | .bcc | .bcs | .bne | .beq => some { base := 2, pageCross := false, branch := true }
  | .jmp => if i.mode = .ind then plainCycles 5 else plainCycles 3
  | .jsr | .rts | .rti => plainCycles 6
  | .pha | .php => plainCycles 3
  | .pla | .plp => plainCycles 4
  | .brk => plainCycles 7
  | .tax | .tay | .txa | .tya | .tsx | .txs | .inx | .iny | .dex | .dey | .clc | .sec | .cli | .sei | .cld | .sed | .clv
  | .nop => plainCycles 2

end Sys2Proof.Machine
end

