-- ==== Sys2Proof/Tests/Slice0.lean ====
section
/-! SUPPORT. Tests.  Expected results are the spec's own: the vectors of 95_test_vectors.md (V, H and E numbers), the bytes of the
`Encoding` lines of the instruction rules, the tables of 30_encoding.md R113 and 70_reset_and_hazards.md R360.  The last part
holds one witness for each obligation with hypotheses: a concrete state and operands that meet them. -/

namespace Sys2Proof.Tests

open Sys2Proof.Machine Sys2Proof.Safety

/-! ## Helpers -/

def subset : Config := { profile := .subset, decimalMode := .ignored }
def full : Config := { profile := .full, decimalMode := .ignored }
def nmosFull : Config := { profile := .full, decimalMode := .nmos }

/-- A new core with PC at `addr` and the bytes stored there. -/
def placed (cfg : Config) (addr : Word) (bytes : List Byte) : State :=
  ((State.new cfg).setPc addr).writeBytes addr bytes

/-- Single bytes written to memory. -/
def poked (s : State) (stores : List (Word × Byte)) : State :=
  stores.foldl (fun t c => t.write8 c.1 c.2) s

/-- The next state of a step, if there is one. -/
def ran (s : State) : Option State :=
  match step s with
  | .next t => some t
  | .fault _ => none
  | .refused _ => none

/-- One step from the bytes at `addr`, the listed memory and the changes `before`, ends in the state that the listed stores and
the changes `after` make of that state: nothing else differs. -/
def runs (cfg : Config) (addr : Word) (bytes : List Byte) (mem : List (Word × Byte)) (before : State → State)
    (stores : List (Word × Byte)) (after : State → State) : Bool :=
  let s := before (poked (placed cfg addr bytes) mem)
  decide (ran s = some (after (poked s stores)))

/-- The instruction of a word of so many bits. -/
def decoded (word : Nat × Nat) : Option Instr := decodeTableWord word.1 word.2

/-! ## Well-formedness -/

/-- An instruction outside the demonstrated subset is refused under SUBSET (30_encoding.md R108, R109). -/
theorem test_wf_refuses_instruction_outside_profile :
    Instr.wf .subset (.staZp 0x10#8) = false ∧ Instr.wf .subset .tay = false ∧ Instr.wf .full (.staZp 0x10#8) = true := by
  decide

/-- A memory with addresses out of order, a repeated address, a listed 0x00 or an address outside the space is refused. -/
theorem test_memory_wf_refuses_other_forms :
    Memory.wf [(2, 0x01#8), (1, 0x01#8)] = false ∧ Memory.wf [(1, 0x01#8), (1, 0x02#8)] = false ∧
    Memory.wf [(1, 0x00#8)] = false ∧ Memory.wf [(65536, 0x01#8)] = false ∧ Memory.wf [(1, 0x01#8), (65535, 0x02#8)] = true := by
  decide

/-! ## Decoding: every constructor from a word written out from the spec -/

/-- Halt, transfers, flags, stack, system: the bytes of the `Encoding` lines of R140, R180 to R185, R242, R260 to R272. -/
theorem test_decode_implied :
    [
      (8, 0x00), (8, 0xAA), (8, 0xA8), (8, 0x8A), (8, 0x98), (8, 0xBA), (8, 0x9A), (8, 0x48), (8, 0x68), (8, 0x08),
      (8, 0x28), (8, 0x18), (8, 0x38), (8, 0x58), (8, 0x78), (8, 0xD8), (8, 0xF8), (8, 0xB8), (8, 0xEA), (8, 0x40),
      (8, 0x60)].map decoded = [
      some .brk, some .tax, some .tay, some .txa, some .tya, some .tsx, some .txs, some .pha, some .pla, some .php,
      some .plp, some .clc, some .sec, some .cli, some .sei, some .cld, some .sed, some .clv, some .nop, some .rti,
      some .rts] := by
  decide

/-- LDA, LDX, LDY: the bytes of the `Encoding` lines of R160 to R162. -/
theorem test_decode_loads :
    [
      (16, 0x9AA9), (16, 0x9AA5), (16, 0x9AB5), (24, 0x1234AD), (24, 0x1234BD), (24, 0x1234B9), (16, 0x9AA1),
      (16, 0x9AB1), (16, 0x9AA2), (16, 0x9AA6), (16, 0x9AB6), (24, 0x1234AE), (24, 0x1234BE), (16, 0x9AA0),
      (16, 0x9AA4), (16, 0x9AB4), (24, 0x1234AC), (24, 0x1234BC)].map decoded = [
      some (.ldaImm 0x9A#8), some (.ldaZp 0x9A#8), some (.ldaZpx 0x9A#8), some (.ldaAbs 0x1234#16),
      some (.ldaAbsx 0x1234#16), some (.ldaAbsy 0x1234#16), some (.ldaIndx 0x9A#8), some (.ldaIndy 0x9A#8),
      some (.ldxImm 0x9A#8), some (.ldxZp 0x9A#8), some (.ldxZpy 0x9A#8), some (.ldxAbs 0x1234#16),
      some (.ldxAbsy 0x1234#16), some (.ldyImm 0x9A#8), some (.ldyZp 0x9A#8), some (.ldyZpx 0x9A#8),
      some (.ldyAbs 0x1234#16), some (.ldyAbsx 0x1234#16)] := by
  decide

/-- STA, STX, STY: the bytes of the `Encoding` lines of R163 to R165. -/
theorem test_decode_stores :
    [
      (16, 0x9A85), (16, 0x9A95), (24, 0x12348D), (24, 0x12349D), (24, 0x123499), (16, 0x9A81), (16, 0x9A91),
      (16, 0x9A86), (16, 0x9A96), (24, 0x12348E), (16, 0x9A84), (16, 0x9A94), (24, 0x12348C)].map decoded = [
      some (.staZp 0x9A#8), some (.staZpx 0x9A#8), some (.staAbs 0x1234#16), some (.staAbsx 0x1234#16),
      some (.staAbsy 0x1234#16), some (.staIndx 0x9A#8), some (.staIndy 0x9A#8), some (.stxZp 0x9A#8),
      some (.stxZpy 0x9A#8), some (.stxAbs 0x1234#16), some (.styZp 0x9A#8), some (.styZpx 0x9A#8),
      some (.styAbs 0x1234#16)] := by
  decide

/-- Increments and decrements: the bytes of the `Encoding` lines of R190 to R195. -/
theorem test_decode_increments :
    [
      (8, 0xE8), (8, 0xC8), (8, 0xCA), (8, 0x88), (16, 0x9AE6), (16, 0x9AF6), (24, 0x1234EE), (24, 0x1234FE),
      (16, 0x9AC6), (16, 0x9AD6), (24, 0x1234CE), (24, 0x1234DE)].map decoded = [
      some .inx, some .iny, some .dex, some .dey, some (.incZp 0x9A#8), some (.incZpx 0x9A#8),
      some (.incAbs 0x1234#16), some (.incAbsx 0x1234#16), some (.decZp 0x9A#8), some (.decZpx 0x9A#8),
      some (.decAbs 0x1234#16), some (.decAbsx 0x1234#16)] := by
  decide

/-- ADC, SBC: the bytes of the `Encoding` lines of R200, R202. -/
theorem test_decode_arithmetic :
    [
      (16, 0x9A69), (16, 0x9A65), (16, 0x9A75), (24, 0x12346D), (24, 0x12347D), (24, 0x123479), (16, 0x9A61),
      (16, 0x9A71), (16, 0x9AE9), (16, 0x9AE5), (16, 0x9AF5), (24, 0x1234ED), (24, 0x1234FD), (24, 0x1234F9),
      (16, 0x9AE1), (16, 0x9AF1)].map decoded = [
      some (.adcImm 0x9A#8), some (.adcZp 0x9A#8), some (.adcZpx 0x9A#8), some (.adcAbs 0x1234#16),
      some (.adcAbsx 0x1234#16), some (.adcAbsy 0x1234#16), some (.adcIndx 0x9A#8), some (.adcIndy 0x9A#8),
      some (.sbcImm 0x9A#8), some (.sbcZp 0x9A#8), some (.sbcZpx 0x9A#8), some (.sbcAbs 0x1234#16),
      some (.sbcAbsx 0x1234#16), some (.sbcAbsy 0x1234#16), some (.sbcIndx 0x9A#8), some (.sbcIndy 0x9A#8)] := by
  decide

/-- AND, ORA, EOR: the bytes of the `Encoding` lines of R204 to R206. -/
theorem test_decode_logic :
    [
      (16, 0x9A29), (16, 0x9A25), (16, 0x9A35), (24, 0x12342D), (24, 0x12343D), (24, 0x123439), (16, 0x9A21),
      (16, 0x9A31), (16, 0x9A09), (16, 0x9A05), (16, 0x9A15), (24, 0x12340D), (24, 0x12341D), (24, 0x123419),
      (16, 0x9A01), (16, 0x9A11), (16, 0x9A49), (16, 0x9A45), (16, 0x9A55), (24, 0x12344D), (24, 0x12345D),
      (24, 0x123459), (16, 0x9A41), (16, 0x9A51)].map decoded = [
      some (.andImm 0x9A#8), some (.andZp 0x9A#8), some (.andZpx 0x9A#8), some (.andAbs 0x1234#16),
      some (.andAbsx 0x1234#16), some (.andAbsy 0x1234#16), some (.andIndx 0x9A#8), some (.andIndy 0x9A#8),
      some (.oraImm 0x9A#8), some (.oraZp 0x9A#8), some (.oraZpx 0x9A#8), some (.oraAbs 0x1234#16),
      some (.oraAbsx 0x1234#16), some (.oraAbsy 0x1234#16), some (.oraIndx 0x9A#8), some (.oraIndy 0x9A#8),
      some (.eorImm 0x9A#8), some (.eorZp 0x9A#8), some (.eorZpx 0x9A#8), some (.eorAbs 0x1234#16),
      some (.eorAbsx 0x1234#16), some (.eorAbsy 0x1234#16), some (.eorIndx 0x9A#8), some (.eorIndy 0x9A#8)] := by
  decide

/-- CMP, CPX, CPY, BIT: the bytes of the `Encoding` lines of R207 to R210. -/
theorem test_decode_comparisons :
    [
      (16, 0x9AC9), (16, 0x9AC5), (16, 0x9AD5), (24, 0x1234CD), (24, 0x1234DD), (24, 0x1234D9), (16, 0x9AC1),
      (16, 0x9AD1), (16, 0x9AE0), (16, 0x9AE4), (24, 0x1234EC), (16, 0x9AC0), (16, 0x9AC4), (24, 0x1234CC),
      (16, 0x9A24), (24, 0x12342C)].map decoded = [
      some (.cmpImm 0x9A#8), some (.cmpZp 0x9A#8), some (.cmpZpx 0x9A#8), some (.cmpAbs 0x1234#16),
      some (.cmpAbsx 0x1234#16), some (.cmpAbsy 0x1234#16), some (.cmpIndx 0x9A#8), some (.cmpIndy 0x9A#8),
      some (.cpxImm 0x9A#8), some (.cpxZp 0x9A#8), some (.cpxAbs 0x1234#16), some (.cpyImm 0x9A#8),
      some (.cpyZp 0x9A#8), some (.cpyAbs 0x1234#16), some (.bitZp 0x9A#8), some (.bitAbs 0x1234#16)] := by
  decide

/-- Shifts and rotates: the bytes of the `Encoding` lines of R230 to R233. -/
theorem test_decode_shifts :
    [
      (8, 0x0A), (16, 0x9A06), (16, 0x9A16), (24, 0x12340E), (24, 0x12341E), (8, 0x4A), (16, 0x9A46), (16, 0x9A56),
      (24, 0x12344E), (24, 0x12345E), (8, 0x2A), (16, 0x9A26), (16, 0x9A36), (24, 0x12342E), (24, 0x12343E),
      (8, 0x6A), (16, 0x9A66), (16, 0x9A76), (24, 0x12346E), (24, 0x12347E)].map decoded = [
      some .aslAcc, some (.aslZp 0x9A#8), some (.aslZpx 0x9A#8), some (.aslAbs 0x1234#16), some (.aslAbsx 0x1234#16),
      some .lsrAcc, some (.lsrZp 0x9A#8), some (.lsrZpx 0x9A#8), some (.lsrAbs 0x1234#16), some (.lsrAbsx 0x1234#16),
      some .rolAcc, some (.rolZp 0x9A#8), some (.rolZpx 0x9A#8), some (.rolAbs 0x1234#16), some (.rolAbsx 0x1234#16),
      some .rorAcc, some (.rorZp 0x9A#8), some (.rorZpx 0x9A#8), some (.rorAbs 0x1234#16), some (.rorAbsx 0x1234#16)] := by
  decide

/-- Jumps and branches: the bytes of the `Encoding` lines of R240, R241, R244 to R251. -/
theorem test_decode_control :
    [
      (24, 0x12344C), (24, 0x12346C), (24, 0x123420), (16, 0x9A10), (16, 0x9A30), (16, 0x9A50), (16, 0x9A70),
      (16, 0x9A90), (16, 0x9AB0), (16, 0x9AD0), (16, 0x9AF0)].map decoded = [
      some (.jmpAbs 0x1234#16), some (.jmpInd 0x1234#16), some (.jsr 0x1234#16), some (.bpl 0x9A#8),
      some (.bmi 0x9A#8), some (.bvc 0x9A#8), some (.bvs 0x9A#8), some (.bcc 0x9A#8), some (.bcs 0x9A#8),
      some (.bne 0x9A#8), some (.beq 0x9A#8)] := by
  decide

/-- Bytes without a descriptor, and an instruction cut short, are refused by name (30_encoding.md R107, R110). -/
theorem test_decode_refuses :
    decoded (8, 0x02) = none ∧ decoded (8, 0xEB) = none ∧ decoded (8, 0xFF) = none ∧
    decode .full [0x04#8, 0x00#8] = .error (.unimplementedOpcode 0x04#8) ∧
    decode .subset [0x8D#8, 0x00#8, 0x02#8] = .error (.unimplementedOpcode 0x8D#8) ∧
    decode .full [0xAD#8, 0x34#8] = .error (.truncated 0xAD#8) ∧ decode .full [] = .error .noBytes :=
  ⟨by decide, by decide, by decide, rfl, rfl, rfl, rfl⟩

/-! ## Single steps: vectors of 95_test_vectors.md -/

/-- V1: halt: PC = op_addr+1, nothing else. -/
theorem test_brk_V1 :
    runs subset 0x8000 [0x00] [] (fun s => s) [] (fun s => { s with pc := 0x8001, run := .halted }) = true := by
  decide

/-- V2: halt at 0xFFFF: PC wraps to 0x0000. -/
theorem test_brk_V2 :
    runs subset 0xFFFF [0x00] [] (fun s => s) [] (fun s => { s with pc := 0x0000, run := .halted }) = true := by
  decide

/-- V3: 0x8D (STA abs) is Unimplemented under SUBSET: fault code 1, PC = op_addr+1, no store. -/
theorem test_engine_V3 :
    runs subset 0x8000 [0x8D, 0x00, 0x02] [] (fun s => { s with a := 0x55 })
      [] (fun s => { s with pc := 0x8001, run := .faulted, fault := some ⟨.unimplementedOpcode, 0x8D, 0x8000⟩ }) = true := by
  decide

/-- V4: 0x02 undocumented: Unimplemented under FULL too. -/
theorem test_engine_V4 :
    runs full 0x8000 [0x02] [] (fun s => s)
      [] (fun s => { s with pc := 0x8001, run := .faulted, fault := some ⟨.unimplementedOpcode, 0x02, 0x8000⟩ }) = true := by
  decide

/-- V5: fault records opcode and op_addr. -/
theorem test_engine_V5 :
    runs subset 0x1234 [0xFF] [] (fun s => s)
      [] (fun s => { s with pc := 0x1235, run := .faulted, fault := some ⟨.unimplementedOpcode, 0xFF, 0x1234⟩ }) = true := by
  decide

/-- V6: stop request: Halted, no instruction executed, PC unchanged. -/
theorem test_engine_V6 :
    runs subset 0x8000 [0xE8] [] (fun s => { s with stopReq := true, x := 0x05 })
      [] (fun s => { s with pc := 0x8000, stopReq := false, run := .halted }) = true := by
  decide

/-- V7: operand bytes at 0xFFFF and 0x0000 (fetch wraps); EA=0x1234, PC wraps to 0x0001. -/
theorem test_ldaAbs_V7 :
    runs subset 0xFFFE [0xAD, 0x34] [(0x0000, 0x12), (0x1234, 0x77)] (fun s => s)
      [] (fun s => { s with a := 0x77, pc := 0x0001 }) = true := by
  decide

/-- V9: ZP. -/
theorem test_ldaZp_V9 :
    runs subset 0x8000 [0xA5, 0xFF] [(0x00FF, 0x01)] (fun s => s)
      [] (fun s => { s with a := 0x01, pc := 0x8002 }) = true := by
  decide

/-- V10: ZPX wraps in page 0: 0x80+0xFF -> 0x007F. -/
theorem test_ldaZpx_V10 :
    runs subset 0x8000 [0xB5, 0x80] [(0x007F, 0x42)] (fun s => { s with x := 0xFF })
      [] (fun s => { s with a := 0x42, pc := 0x8002 }) = true := by
  decide

/-- V11: ABSX wraps at 0xFFFF -> 0x0000. -/
theorem test_ldaAbsx_V11 :
    runs subset 0x8000 [0xBD, 0xFF, 0xFF] [(0x0000, 0x33)] (fun s => { s with x := 0x01 })
      [] (fun s => { s with a := 0x33, pc := 0x8003 }) = true := by
  decide

/-- V12: ABSX page crossing: carry into high byte, no other effect. -/
theorem test_ldaAbsx_V12 :
    runs subset 0x8000 [0xBD, 0xF0, 0x12] [(0x1310, 0x44)] (fun s => { s with x := 0x20 })
      [] (fun s => { s with a := 0x44, pc := 0x8003 }) = true := by
  decide

/-- V13: ABSY; loaded 0 gives Z=1. -/
theorem test_ldaAbsy_V13 :
    runs subset 0x8000 [0xB9, 0x00, 0x30] [(0x3005, 0x00)] (fun s => { s with y := 0x05 })
      [] (fun s => { s with p := 0x02, pc := 0x8003 }) = true := by
  decide

/-- V14: INDX: pointer at 0xFF, high byte from 0x0000 (zero-page wrap). -/
theorem test_ldaIndx_V14 :
    runs subset 0x8000 [0xA1, 0xFE] [(0x00FF, 0x00), (0x0000, 0x40), (0x4000, 0x9C)] (fun s => { s with x := 0x01 })
      [] (fun s => { s with a := 0x9C, p := 0x80, pc := 0x8002 }) = true := by
  decide

/-- V15: INDX: 0x10+0xF5 wraps to 0x05. -/
theorem test_ldaIndx_V15 :
    runs subset 0x8000 [0xA1, 0x10] [(0x0005, 0x34), (0x0006, 0x12), (0x1234, 0x5A)] (fun s => { s with x := 0xF5 })
      [] (fun s => { s with a := 0x5A, pc := 0x8002 }) = true := by
  decide

/-- V16: INDY: pointer 0xFF/0x00 gives base 0xFFFF; +Y wraps to 0x0000 (which holds 0xFF). -/
theorem test_ldaIndy_V16 :
    runs subset 0x8000 [0xB1, 0xFF] [(0x00FF, 0xFF), (0x0000, 0xFF)] (fun s => { s with y := 0x01 })
      [] (fun s => { s with a := 0xFF, p := 0x80, pc := 0x8002 }) = true := by
  decide

/-- V17: INDY with page crossing: 0x40F8+0x10 = 0x4108. -/
theorem test_ldaIndy_V17 :
    runs subset 0x8000 [0xB1, 0x20] [(0x0020, 0xF8), (0x0021, 0x40), (0x4108, 0x81)] (fun s => { s with y := 0x10 })
      [] (fun s => { s with a := 0x81, p := 0x80, pc := 0x8002 }) = true := by
  decide

/-- V18: ZPY (FULL, via LDX) wraps in page 0. -/
theorem test_ldxZpy_V18 :
    runs full 0x8000 [0xB6, 0xF0] [(0x0010, 0x7E)] (fun s => { s with y := 0x20 })
      [] (fun s => { s with x := 0x7E, pc := 0x8002 }) = true := by
  decide

/-- V19: IND (JMP): NMOS page-wrap bug, high byte from 0x1200. -/
theorem test_jmpInd_V19 :
    runs full 0x8000 [0x6C, 0xFF, 0x12] [(0x12FF, 0x34), (0x1200, 0x56), (0x1300, 0x99)] (fun s => s)
      [] (fun s => { s with pc := 0x5634 }) = true := by
  decide

/-- V20: LDA #0: Z=1, N cleared. -/
theorem test_ldaImm_V20 :
    runs subset 0x8000 [0xA9, 0x00] [] (fun s => { s with p := 0x80 })
      [] (fun s => { s with p := 0x02, pc := 0x8002 }) = true := by
  decide

/-- V22: LDX #0xFF. -/
theorem test_ldxImm_V22 :
    runs full 0x8000 [0xA2, 0xFF] [] (fun s => s)
      [] (fun s => { s with x := 0xFF, p := 0x80, pc := 0x8002 }) = true := by
  decide

/-- V23: LDY #0. -/
theorem test_ldyImm_V23 :
    runs full 0x8000 [0xA0, 0x00] [] (fun s => s) [] (fun s => { s with p := 0x02, pc := 0x8002 }) = true := by
  decide

/-- V24: STA zp: no flag change. -/
theorem test_staZp_V24 :
    runs full 0x8000 [0x85, 0x10] [] (fun s => { s with a := 0x55, p := 0x82 })
      [(0x0010, 0x55)] (fun s => { s with pc := 0x8002 }) = true := by
  decide

/-- V25: STA abs,X wraps to 0x0001. -/
theorem test_staAbsx_V25 :
    runs full 0x8000 [0x9D, 0xFF, 0xFF] [] (fun s => { s with a := 0xAB, x := 0x02 })
      [(0x0001, 0xAB)] (fun s => { s with pc := 0x8003 }) = true := by
  decide

/-- V26: STA (zp),Y. -/
theorem test_staIndy_V26 :
    runs full 0x8000 [0x91, 0x40] [(0x0040, 0x00), (0x0041, 0x02)] (fun s => { s with a := 0x11, y := 0x03 })
      [(0x0203, 0x11)] (fun s => { s with pc := 0x8002 }) = true := by
  decide

/-- V27: STX zp,Y wraps. -/
theorem test_stxZpy_V27 :
    runs full 0x8000 [0x96, 0x80] [] (fun s => { s with x := 0x01, y := 0xFF })
      [(0x007F, 0x01)] (fun s => { s with pc := 0x8002 }) = true := by
  decide

/-- V28: STY abs. -/
theorem test_styAbs_V28 :
    runs full 0x8000 [0x8C, 0x00, 0x02] [] (fun s => { s with y := 0x7F })
      [(0x0200, 0x7F)] (fun s => { s with pc := 0x8003 }) = true := by
  decide

/-- V29: STA into its own operand byte (self-modifying): instruction already decoded. -/
theorem test_staAbs_V29 :
    runs full 0x8000 [0x8D, 0x01, 0x80] [] (fun s => { s with a := 0xEA })
      [(0x8001, 0xEA)] (fun s => { s with pc := 0x8003 }) = true := by
  decide

/-- V30: TAX zero: Z=1. -/
theorem test_tax_V30 :
    runs subset 0x8000 [0xAA] [] (fun s => { s with a := 0x00, x := 0x12 })
      [] (fun s => { s with x := 0x00, p := 0x02, pc := 0x8001 }) = true := by
  decide

/-- V31: TAX: N=1. -/
theorem test_tax_V31 :
    runs subset 0x8000 [0xAA] [] (fun s => { s with a := 0x80 })
      [] (fun s => { s with x := 0x80, p := 0x80, pc := 0x8001 }) = true := by
  decide

/-- V32: TAY. -/
theorem test_tay_V32 :
    runs full 0x8000 [0xA8] [] (fun s => { s with a := 0xC3 })
      [] (fun s => { s with y := 0xC3, p := 0x80, pc := 0x8001 }) = true := by
  decide

/-- V33: TXA: Z=1. -/
theorem test_txa_V33 :
    runs full 0x8000 [0x8A] [] (fun s => { s with x := 0x00, a := 0x44 })
      [] (fun s => { s with a := 0x00, p := 0x02, pc := 0x8001 }) = true := by
  decide

/-- V34: TYA. -/
theorem test_tya_V34 :
    runs full 0x8000 [0x98] [] (fun s => { s with y := 0x01 })
      [] (fun s => { s with a := 0x01, pc := 0x8001 }) = true := by
  decide

/-- V35: TSX after new: SP=0, Z=1. -/
theorem test_tsx_V35 :
    runs full 0x8000 [0xBA] [] (fun s => s) [] (fun s => { s with p := 0x02, pc := 0x8001 }) = true := by
  decide

/-- V36: TXS: no flags even for 0. -/
theorem test_txs_V36 :
    runs full 0x8000 [0x9A] [] (fun s => { s with x := 0x00, p := 0x80 })
      [] (fun s => { s with pc := 0x8001 }) = true := by
  decide

/-- V37: INX wraps: Z=1, C kept. -/
theorem test_inx_V37 :
    runs subset 0x8000 [0xE8] [] (fun s => { s with x := 0xFF, p := 0x01 })
      [] (fun s => { s with x := 0x00, p := 0x03, pc := 0x8001 }) = true := by
  decide

/-- V38: INX: N=1. -/
theorem test_inx_V38 :
    runs subset 0x8000 [0xE8] [] (fun s => { s with x := 0x7F })
      [] (fun s => { s with x := 0x80, p := 0x80, pc := 0x8001 }) = true := by
  decide

/-- V39: INY wraps. -/
theorem test_iny_V39 :
    runs full 0x8000 [0xC8] [] (fun s => { s with y := 0xFF })
      [] (fun s => { s with y := 0x00, p := 0x02, pc := 0x8001 }) = true := by
  decide

/-- V40: DEX wraps to 0xFF, N=1. -/
theorem test_dex_V40 :
    runs full 0x8000 [0xCA] [] (fun s => { s with x := 0x00 })
      [] (fun s => { s with x := 0xFF, p := 0x80, pc := 0x8001 }) = true := by
  decide

/-- V41: DEY to 0: Z=1. -/
theorem test_dey_V41 :
    runs full 0x8000 [0x88] [] (fun s => { s with y := 0x01 })
      [] (fun s => { s with y := 0x00, p := 0x02, pc := 0x8001 }) = true := by
  decide

/-- V42: INC zp wraps. -/
theorem test_incZp_V42 :
    runs full 0x8000 [0xE6, 0x10] [(0x0010, 0xFF)] (fun s => s)
      [(0x0010, 0x00)] (fun s => { s with p := 0x02, pc := 0x8002 }) = true := by
  decide

/-- V43: DEC abs,X: 0x00FF+1 = 0x0100 (no page-0 wrap for ABSX). -/
theorem test_decAbsx_V43 :
    runs full 0x8000 [0xDE, 0xFF, 0x00] [(0x0100, 0x00)] (fun s => { s with x := 0x01 })
      [(0x0100, 0xFF)] (fun s => { s with p := 0x80, pc := 0x8003 }) = true := by
  decide

/-- V49: D=1 but DECIMAL_MODE=IGNORED: binary 0x3C. -/
theorem test_adcImm_V49 :
    runs full 0x8000 [0x69, 0x27] [] (fun s => { s with a := 0x15, p := 0x08 })
      [] (fun s => { s with a := 0x3C, pc := 0x8002 }) = true := by
  decide

/-- V50: SBC overflow. -/
theorem test_sbcImm_V50 :
    runs full 0x8000 [0xE9, 0xB0] [] (fun s => { s with a := 0x50, p := 0x01 })
      [] (fun s => { s with a := 0xA0, p := 0xC0, pc := 0x8002 }) = true := by
  decide

/-- V57: decimal 46+58+1 = 105: A=0x05, C=1. -/
theorem test_adcImm_V57 :
    runs nmosFull 0x8000 [0x69, 0x58] [] (fun s => { s with a := 0x46, p := 0x09 })
      [] (fun s => { s with a := 0x05, p := 0xC9, pc := 0x8002 }) = true := by
  decide

/-- V59: decimal 00-01 = 99, C=0 (borrow). -/
theorem test_sbcImm_V59 :
    runs nmosFull 0x8000 [0xE9, 0x01] [] (fun s => { s with a := 0x00, p := 0x09 })
      [] (fun s => { s with a := 0x99, p := 0x88, pc := 0x8002 }) = true := by
  decide

/-- V61: AND. -/
theorem test_andImm_V61 :
    runs full 0x8000 [0x29, 0x3C] [] (fun s => { s with a := 0xF0 })
      [] (fun s => { s with a := 0x30, pc := 0x8002 }) = true := by
  decide

/-- V62: AND 0: Z=1, N=0, C kept. -/
theorem test_andImm_V62 :
    runs full 0x8000 [0x29, 0x00] [] (fun s => { s with a := 0xFF, p := 0x81 })
      [] (fun s => { s with a := 0x00, p := 0x03, pc := 0x8002 }) = true := by
  decide

/-- V63: ORA. -/
theorem test_oraImm_V63 :
    runs full 0x8000 [0x09, 0x80] [] (fun s => { s with a := 0x01 })
      [] (fun s => { s with a := 0x81, p := 0x80, pc := 0x8002 }) = true := by
  decide

/-- V64: EOR self: Z=1. -/
theorem test_eorImm_V64 :
    runs full 0x8000 [0x49, 0xFF] [] (fun s => { s with a := 0xFF })
      [] (fun s => { s with a := 0x00, p := 0x02, pc := 0x8002 }) = true := by
  decide

/-- V66: CMP equal: Z=1, C=1. -/
theorem test_cmpImm_V66 :
    runs full 0x8000 [0xC9, 0x40] [] (fun s => { s with a := 0x40 })
      [] (fun s => { s with p := 0x03, pc := 0x8002 }) = true := by
  decide

/-- V67: CMP less: C=0, N=1. -/
theorem test_cmpImm_V67 :
    runs full 0x8000 [0xC9, 0x01] [] (fun s => { s with a := 0x00 })
      [] (fun s => { s with p := 0x80, pc := 0x8002 }) = true := by
  decide

/-- V69: CPX equal. -/
theorem test_cpxImm_V69 :
    runs full 0x8000 [0xE0, 0x05] [] (fun s => { s with x := 0x05 })
      [] (fun s => { s with p := 0x03, pc := 0x8002 }) = true := by
  decide

/-- V70: CPY less. -/
theorem test_cpyImm_V70 :
    runs full 0x8000 [0xC0, 0x01] [] (fun s => { s with y := 0x00 })
      [] (fun s => { s with p := 0x80, pc := 0x8002 }) = true := by
  decide

/-- V71: BIT: V from bit 6. -/
theorem test_bitZp_V71 :
    runs full 0x8000 [0x24, 0x10] [(0x0010, 0x41)] (fun s => { s with a := 0x01 })
      [] (fun s => { s with p := 0x40, pc := 0x8002 }) = true := by
  decide

/-- V72: BIT: Z=1, N=1, V=1. -/
theorem test_bitAbs_V72 :
    runs full 0x8000 [0x2C, 0x00, 0x02] [(0x0200, 0xC0)] (fun s => { s with a := 0x00 })
      [] (fun s => { s with p := 0xC2, pc := 0x8003 }) = true := by
  decide

/-- V73: ASL A. -/
theorem test_aslAcc_V73 :
    runs full 0x8000 [0x0A] [] (fun s => { s with a := 0x81 })
      [] (fun s => { s with a := 0x02, p := 0x01, pc := 0x8001 }) = true := by
  decide

/-- V75: LSR to zero: C=1, Z=1. -/
theorem test_lsrAcc_V75 :
    runs full 0x8000 [0x4A] [] (fun s => { s with a := 0x01 })
      [] (fun s => { s with a := 0x00, p := 0x03, pc := 0x8001 }) = true := by
  decide

/-- V76: LSR zp. -/
theorem test_lsrZp_V76 :
    runs full 0x8000 [0x46, 0x10] [(0x0010, 0x82)] (fun s => s)
      [(0x0010, 0x41)] (fun s => { s with pc := 0x8002 }) = true := by
  decide

/-- V77: ROL A with carry in. -/
theorem test_rolAcc_V77 :
    runs full 0x8000 [0x2A] [] (fun s => { s with a := 0x40, p := 0x01 })
      [] (fun s => { s with a := 0x81, p := 0x80, pc := 0x8001 }) = true := by
  decide

/-- V79: ROR: carry into bit 7, N=1. -/
theorem test_rorAcc_V79 :
    runs full 0x8000 [0x6A] [] (fun s => { s with a := 0x00, p := 0x01 })
      [] (fun s => { s with a := 0x80, p := 0x80, pc := 0x8001 }) = true := by
  decide

/-- V80: ROR abs,X. -/
theorem test_rorAbsx_V80 :
    runs full 0x8000 [0x7E, 0x00, 0x02] [(0x0201, 0x03)] (fun s => { s with x := 0x01 })
      [(0x0201, 0x01)] (fun s => { s with p := 0x01, pc := 0x8003 }) = true := by
  decide

/-- V81: JMP abs. -/
theorem test_jmpAbs_V81 :
    runs full 0x8000 [0x4C, 0x00, 0x90] [] (fun s => s) [] (fun s => { s with pc := 0x9000 }) = true := by
  decide

/-- V82: JSR pushes 0x8002 high first. -/
theorem test_jsr_V82 :
    runs full 0x8000 [0x20, 0x34, 0x12] [] (fun s => { s with sp := 0xFF })
      [(0x01FF, 0x80), (0x01FE, 0x02)] (fun s => { s with sp := 0xFD, pc := 0x1234 }) = true := by
  decide

/-- V83: JSR with SP=0: stack wraps in page 1. -/
theorem test_jsr_V83 :
    runs full 0x8000 [0x20, 0x00, 0x90] [] (fun s => { s with sp := 0x00 })
      [(0x0100, 0x80), (0x01FF, 0x02)] (fun s => { s with sp := 0xFE, pc := 0x9000 }) = true := by
  decide

/-- V84: RTS: pulled 0x8002 + 1. -/
theorem test_rts_V84 :
    runs full 0x8000 [0x60] [(0x01FE, 0x02), (0x01FF, 0x80)] (fun s => { s with sp := 0xFD })
      [] (fun s => { s with sp := 0xFF, pc := 0x8003 }) = true := by
  decide

/-- V85: RTS: 0xFFFF+1 wraps to 0x0000. -/
theorem test_rts_V85 :
    runs full 0x8000 [0x60] [(0x01FE, 0xFF), (0x01FF, 0xFF)] (fun s => { s with sp := 0xFD })
      [] (fun s => { s with sp := 0xFF, pc := 0x0000 }) = true := by
  decide

/-- V86: BNE taken backward. -/
theorem test_bne_V86 :
    runs full 0x8004 [0xD0, 0xFA] [] (fun s => s) [] (fun s => { s with pc := 0x8000 }) = true := by
  decide

/-- V87: BNE not taken. -/
theorem test_bne_V87 :
    runs full 0x8004 [0xD0, 0xFA] [] (fun s => { s with p := 0x02 })
      [] (fun s => { s with pc := 0x8006 }) = true := by
  decide

/-- V88: BEQ to itself. -/
theorem test_beq_V88 :
    runs full 0x8000 [0xF0, 0xFE] [] (fun s => { s with p := 0x02 })
      [] (fun s => { s with pc := 0x8000 }) = true := by
  decide

/-- V89: BPL offset 0: next instruction either way. -/
theorem test_bpl_V89 :
    runs full 0x8000 [0x10, 0x00] [] (fun s => s) [] (fun s => { s with pc := 0x8002 }) = true := by
  decide

/-- V90: BMI target wraps past 0xFFFF. -/
theorem test_bmi_V90 :
    runs full 0xFFF0 [0x30, 0x7F] [] (fun s => { s with p := 0x80 })
      [] (fun s => { s with pc := 0x0071 }) = true := by
  decide

/-- V91: BCS offset -128. -/
theorem test_bcs_V91 :
    runs full 0x8000 [0xB0, 0x80] [] (fun s => { s with p := 0x01 })
      [] (fun s => { s with pc := 0x7F82 }) = true := by
  decide

/-- V92: BCC not taken. -/
theorem test_bcc_V92 :
    runs full 0x8000 [0x90, 0x10] [] (fun s => { s with p := 0x01 })
      [] (fun s => { s with pc := 0x8002 }) = true := by
  decide

/-- V93: BVC taken. -/
theorem test_bvc_V93 :
    runs full 0x8010 [0x50, 0xF0] [] (fun s => s) [] (fun s => { s with pc := 0x8002 }) = true := by
  decide

/-- V94: BVS taken +127. -/
theorem test_bvs_V94 :
    runs full 0x8000 [0x70, 0x7F] [] (fun s => { s with p := 0x40 })
      [] (fun s => { s with pc := 0x8081 }) = true := by
  decide

/-- V95: PHA. -/
theorem test_pha_V95 :
    runs full 0x8000 [0x48] [] (fun s => { s with a := 0x42, sp := 0xFF })
      [(0x01FF, 0x42)] (fun s => { s with sp := 0xFE, pc := 0x8001 }) = true := by
  decide

/-- V96: PHA at SP=0 writes 0x0100, SP wraps. -/
theorem test_pha_V96 :
    runs full 0x8000 [0x48] [] (fun s => { s with a := 0x42, sp := 0x00 })
      [(0x0100, 0x42)] (fun s => { s with sp := 0xFF, pc := 0x8001 }) = true := by
  decide

/-- V97: PLA: N=1. -/
theorem test_pla_V97 :
    runs full 0x8000 [0x68] [(0x01FF, 0x80)] (fun s => { s with sp := 0xFE })
      [] (fun s => { s with a := 0x80, sp := 0xFF, p := 0x80, pc := 0x8001 }) = true := by
  decide

/-- V98: PLA at SP=0xFF reads 0x0100: Z=1. -/
theorem test_pla_V98 :
    runs full 0x8000 [0x68] [(0x0100, 0x00)] (fun s => { s with sp := 0xFF })
      [] (fun s => { s with sp := 0x00, p := 0x02, pc := 0x8001 }) = true := by
  decide

/-- V99: PHP pushes P|0x30. -/
theorem test_php_V99 :
    runs full 0x8000 [0x08] [] (fun s => { s with p := 0x01, sp := 0xFF })
      [(0x01FF, 0x31)] (fun s => { s with sp := 0xFE, pc := 0x8001 }) = true := by
  decide

/-- V100: PLP: bits 5:4 of P kept (0). -/
theorem test_plp_V100 :
    runs full 0x8000 [0x28] [(0x01FF, 0xFF)] (fun s => { s with sp := 0xFE })
      [] (fun s => { s with sp := 0xFF, p := 0xCF, pc := 0x8001 }) = true := by
  decide

/-- V101: CLC. -/
theorem test_clc_V101 :
    runs full 0x8000 [0x18] [] (fun s => { s with p := 0x01 })
      [] (fun s => { s with p := 0x00, pc := 0x8001 }) = true := by
  decide

/-- V102: SEC. -/
theorem test_sec_V102 :
    runs full 0x8000 [0x38] [] (fun s => s) [] (fun s => { s with p := 0x01, pc := 0x8001 }) = true := by
  decide

/-- V103: CLI. -/
theorem test_cli_V103 :
    runs full 0x8000 [0x58] [] (fun s => { s with p := 0x04 })
      [] (fun s => { s with p := 0x00, pc := 0x8001 }) = true := by
  decide

/-- V104: SEI. -/
theorem test_sei_V104 :
    runs full 0x8000 [0x78] [] (fun s => s) [] (fun s => { s with p := 0x04, pc := 0x8001 }) = true := by
  decide

/-- V105: CLD. -/
theorem test_cld_V105 :
    runs full 0x8000 [0xD8] [] (fun s => { s with p := 0x08 })
      [] (fun s => { s with p := 0x00, pc := 0x8001 }) = true := by
  decide

/-- V106: SED. -/
theorem test_sed_V106 :
    runs full 0x8000 [0xF8] [] (fun s => s) [] (fun s => { s with p := 0x08, pc := 0x8001 }) = true := by
  decide

/-- V107: CLV. -/
theorem test_clv_V107 :
    runs full 0x8000 [0xB8] [] (fun s => { s with p := 0x40 })
      [] (fun s => { s with p := 0x00, pc := 0x8001 }) = true := by
  decide

/-- V108: NOP. -/
theorem test_nop_V108 :
    runs full 0x8000 [0xEA] [] (fun s => s) [] (fun s => { s with pc := 0x8001 }) = true := by
  decide

/-- V109: RTI: no +1. -/
theorem test_rti_V109 :
    runs full 0x8000 [0x40] [(0x01FD, 0x20), (0x01FE, 0x34), (0x01FF, 0x12)] (fun s => { s with sp := 0xFC, p := 0x04 })
      [] (fun s => { s with sp := 0xFF, p := 0x00, pc := 0x1234 }) = true := by
  decide

/-- V110: IRQ taken (I=0): push 0x8000 and (P&0xEF)|0x20 = 0x21, I=1, PC=vector; NOP not executed. -/
theorem test_engine_V110 :
    runs full 0x8000 [0xEA] [(0xFFFE, 0x00), (0xFFFF, 0x90)] (fun s => { s with irqLine := true, sp := 0xFF, p := 0x01 })
      [(0x01FF, 0x80), (0x01FE, 0x00), (0x01FD, 0x21)] (fun s => { s with sp := 0xFC, p := 0x05, pc := 0x9000 }) = true := by
  decide

/-- V111: IRQ masked (I=1): NOP executes. -/
theorem test_nop_V111 :
    runs full 0x8000 [0xEA] [(0xFFFE, 0x00), (0xFFFF, 0x90)] (fun s => { s with irqLine := true, sp := 0xFF, p := 0x04 })
      [] (fun s => { s with pc := 0x8001 }) = true := by
  decide

/-- V112: NMI beats IRQ and ignores I; NMI_PENDING cleared. -/
theorem test_engine_V112 :
    runs full 0x8000 [0xEA] [(0xFFFA, 0x00), (0xFFFB, 0xA0), (0xFFFE, 0x00), (0xFFFF, 0x90)] (fun s => { s with nmiPending := true, irqLine := true, sp := 0xFF, p := 0x04 })
      [(0x01FF, 0x80), (0x01FE, 0x00), (0x01FD, 0x24)] (fun s => { s with sp := 0xFC, pc := 0xA000, nmiPending := false }) = true := by
  decide

/-- V113: SUBSET ignores both inputs; 0xEA is Unimplemented there. -/
theorem test_engine_V113 :
    runs subset 0x8000 [0xEA] [(0xFFFA, 0x00), (0xFFFB, 0xA0)] (fun s => { s with nmiPending := true, irqLine := true })
      [] (fun s => { s with pc := 0x8001, run := .faulted, fault := some ⟨.unimplementedOpcode, 0xEA, 0x8000⟩ }) = true := by
  decide

/-- V114: stop request beats NMI. -/
theorem test_engine_V114 :
    runs full 0x8000 [0xEA] [] (fun s => { s with stopReq := true, nmiPending := true })
      [] (fun s => { s with pc := 0x8000, stopReq := false, run := .halted }) = true := by
  decide

/-! ## The bus, the host surface, the resolver's error, placing a word -/

/-- E5 and E9: words are little-endian and wrap at 0xFFFF. -/
theorem test_write16_wraps_E5 :
    ((State.new subset).write16 0xFFFF 0xBEEF).read8 0xFFFF = 0xEF ∧
    ((State.new subset).write16 0xFFFF 0xBEEF).read8 0x0000 = 0xBE ∧
    ((State.new subset).write16 0xFFFF 0xBEEF).read16 0xFFFF = 0xBEEF ∧
    (poked (State.new subset) [(0x00FE, 0x34), (0x00FF, 0x12)]).read16 0x00FE = 0x1234 := by
  decide

/-- Writing the value an unlisted address reads as removes the entry (20_memory.md R76). -/
theorem test_write_zero_removes_entry :
    Memory.write [(5, 0x01#8), (9, 0x02#8)] 5 0x00#8 = [(9, 0x02#8)] ∧ Memory.write [] 5 0x00#8 = [] := by decide

/-- H1: a step straight after `new` fetches 0x00 at 0x0000 and halts. -/
theorem test_hostNew_step_H1 :
    ran (hostNew subset) = some { hostNew subset with pc := 0x0001, run := .halted } := by decide

/-- H2: `reset` clears A, X and P, loads PC from the vector and keeps Y and SP. -/
theorem test_hostReset_keeps_Y_and_SP_H2 :
    hostReset { poked (State.new full) [(0xFFFD, 0x80)] with
      a := 0x11, x := 0xFD, y := 0x05, sp := 0xFD, p := 0x80, pc := 0x8006, run := .halted } =
      { poked (State.new full) [(0xFFFD, 0x80)] with y := 0x05, sp := 0xFD, pc := 0x8000 } := by decide

/-- H7: `reset` after a host write of the vector, without any `load`. -/
theorem test_hostReset_vector_H7 : (hostReset (hostWrite16 0xFFFC 0x1234 (hostNew subset))).pc = 0x1234 := by decide

/-- E4 and E8: where `load` puts an image and the vector. -/
theorem test_hostLoad_E8 :
    hostLoad [0xA5, 0x10, 0x00] (hostNew subset) =
      .next (poked (hostNew subset) [(0x8000, 0xA5), (0x8001, 0x10), (0xFFFD, 0x80)]) := by rfl

/-- H4: an image longer than 0x8000 bytes is refused. -/
theorem test_hostLoad_refuses_H4 :
    hostLoad (List.replicate 0x8001 0x00#8) (hostNew subset) = .refused .imageTooLong := by
  rw [hostLoad, if_neg]
  rw [List.length_replicate]
  decide

/-- No step outside Running (40_execution_engine.md R136). -/
theorem test_no_step_when_stopped :
    ran { placed full 0x8000 [0xEA] with run := .halted, nmiPending := true } = none ∧
    ran { placed full 0x8000 [0xEA] with run := .faulted, stopReq := true } = none := by decide

/-- 60_exceptions.md R302: the resolver's error for IMP, were a descriptor ever to ask for it, is the fault of code 2. -/
theorem test_resolver_error_faults :
    runResolved .imp (fun _ s => .next s) ((placed full 0x8000 [0xEA]).afterFetch) =
      .next { placed full 0x8000 [0xEA] with
        pc := 0x8001
        run := .faulted
        fault := some { code := .unsupportedAddressingMode .imp, opcode := 0xEA, opAddr := 0x8000 } } ∧
    (FaultCode.unsupportedAddressingMode .imp).number = 2 ∧ FaultCode.unimplementedOpcode.number = 1 := ⟨rfl, rfl, rfl⟩

/-- A word of the opcode table placed for the next step runs from reset, in the profile that has it. -/
theorem test_withFetchWord_runs :
    ran (State.reset.withFetchWord 24 0x02008D) = some { State.reset.withFetchWord 24 0x02008D with pc := 0x0003 } ∧
    (State.reset.withFetchWord 16 0x80A9).cfg.profile = .subset ∧
    (ran (State.reset.withFetchWord 16 0x80A9)).map (fun s => (s.a, s.p, s.pc)) = some (0x80, 0x80, 0x0002) ∧
    (ran (State.reset.withFetchWord 8 0x00)).map State.run = some .halted := by decide

/-- The descriptor's length is one more than the operand length (30_encoding.md R106). -/
theorem test_descriptor_lengths :
    (descriptor .full 0x6C#8).map Descriptor.length = some 3 ∧ (descriptor .full 0xD0#8).map Descriptor.length = some 2 ∧
    (descriptor .subset 0xAA#8).map Descriptor.length = some 1 ∧ descriptor .subset 0xA8#8 = none :=
  ⟨rfl, rfl, rfl, rfl⟩

/-! ## Tables that no step reads -/

/-- Examples of 30_encoding.md R113. -/
theorem test_assembly_R113 :
    assembly (.ldaImm 0xC0#8) = ['L', 'D', 'A', ' ', '#', '$', 'C', '0'] ∧
    assembly .aslAcc = ['A', 'S', 'L', ' ', 'A'] ∧
    assembly (.ldxZpy 0x10#8) = ['L', 'D', 'X', ' ', '$', '1', '0', ',', 'Y'] ∧
    assembly (.jmpInd 0x1234#16) = ['J', 'M', 'P', ' ', '(', '$', '1', '2', '3', '4', ')'] ∧
    assembly (.ldaIndx 0x10#8) = ['L', 'D', 'A', ' ', '(', '$', '1', '0', ',', 'X', ')'] ∧
    assembly (.bne 0xFC#8) = ['B', 'N', 'E', ' ', '*', '-', '2'] := by decide

/-- Rows of the table of 70_reset_and_hazards.md R360. -/
theorem test_cycles_R360 :
    nmosCycles (.adcAbsx 0x0000#16) = some { base := 4, pageCross := true, branch := false } ∧
    nmosCycles (.aslZpx 0x00#8) = some { base := 6, pageCross := false, branch := false } ∧
    nmosCycles (.beq 0x00#8) = some { base := 2, pageCross := false, branch := true } ∧
    nmosCycles (.jmpInd 0x0000#16) = some { base := 5, pageCross := false, branch := false } ∧
    nmosCycles .brk = some { base := 7, pageCross := false, branch := false } := by decide

/-! ## Witnesses: for each obligation with hypotheses, a state and operands that meet them -/

theorem test_witness_DecodeOfEncodeIsTheInstruction :
    Instr.wf .subset (.ldaIndy 0xFF#8) = true ∧ Instr.wf .full (.jmpInd 0xFFFF#16) = true := by decide

theorem test_witness_EncodeOfDecodeIsTheBytes :
    decode .subset [0xA9#8, 0xFF#8, 0x00#8] = .ok (.ldaImm 0xFF#8, [0x00#8]) ∧
    decode .full [0x6C#8, 0xFF#8, 0xFF#8] = .ok (.jmpInd 0xFFFF#16, []) := ⟨rfl, rfl⟩

/-- Both sides of each equivalence, and the premise of the last clause. -/
theorem test_witness_DefinedBytesOfEachProfile :
    decode .full [0xFF#8, 0#8, 0#8] = .error (.unimplementedOpcode 0xFF#8) ∧
    decode .full [0x01#8, 0#8, 0#8] = .ok (.oraIndx 0#8, [0#8]) ∧
    decode .subset [0x01#8, 0#8, 0#8] = .error (.unimplementedOpcode 0x01#8) ∧
    decode .subset [0xE8#8, 0#8, 0#8] = .ok (.inx, [0#8, 0#8]) := ⟨rfl, rfl, rfl, rfl⟩

/-- An instruction of each mode, fetched at the end of memory. -/
theorem test_witness_ResolverFollowsTheRules :
    ([0xA9, 0xA5, 0xB5, 0xB6, 0xAD, 0xBD, 0xB9, 0xA1, 0xB1, 0xD0, 0x6C, 0xEA, 0x0A].map fun b =>
      match decode .full (placed full 0xFFFF [b, 0xFF, 0xFF]).fetchBytes with
      | .ok (i, _) => some i.mode
      | .error _ => none) =
      [some .imm, some .zp, some .zpx, some .zpy, some .abs, some .absx, some .absy, some .indx, some .indy, some .rel,
        some .ind, some .imp, some .acc] := by decide

/-- The premise of the second clause of the same statement. -/
theorem test_witness_ResolverFollowsTheRules_zero_page :
    resolve (.zpx 0x80#8) { State.new full with x := 0xFF } = .ok 0x007F#16 ∧
    resolve (.zpy 0xFF#8) { State.new full with y := 0xFF } = .ok 0x00FE#16 := ⟨rfl, rfl⟩

/-- The premise `s.mem.wf` of WordReadAfterWordWrite, StackPushAndPull, JsrPushesReturnAddress, RtsReturnsAfterJsr,
PhaAndPhpPushOneByte and RtiUndoesInterruptEntry, with bytes listed at both ends of memory. -/
theorem test_witness_canonical_memory :
    (placed full 0xFFFF [0x20, 0x34, 0x12]).mem.wf = true ∧ (placed full 0xFFFF [0x20, 0x34, 0x12]).mem.length = 3 := by
  decide

theorem test_witness_StepRunsTheDecodedInstruction :
    ReadyForInstruction (placed full 0xFFFE [0x8D, 0x00, 0x02]) ∧
    decode .full (placed full 0xFFFE [0x8D, 0x00, 0x02]).fetchBytes = .ok (.staAbs 0x0200#16, []) := ⟨by decide, rfl⟩

/-- The premise `s.run = .running` of StopSignalHaltsAtNextStep and EveryRunningStepCompletes. -/
theorem test_witness_running : (placed full 0x8000 [0xEA]).run = .running := rfl

theorem test_witness_UnimplementedOpcodeFaultsPrecisely :
    ReadyForInstruction (placed subset 0xFFFF [0xEA]) ∧ descriptor .subset ((placed subset 0xFFFF [0xEA]).read8 0xFFFF) = none ∧
    ReadyForInstruction (placed full 0x8000 [0x02]) ∧ descriptor .full ((placed full 0x8000 [0x02]).read8 0x8000) = none :=
  ⟨by decide, rfl, by decide, rfl⟩

/-- A core with an NMI latched and I set, SP at 0. -/
def nmiWaiting : State := { placed full 0x8000 [0xEA] with nmiPending := true, p := 0x04, sp := 0x00 }

/-- A core with the IRQ line asserted and I clear, SP at 1. -/
def irqWaiting : State := { placed full 0x8000 [0xEA] with irqLine := true, p := 0xFB, sp := 0x01 }

theorem test_witness_PendingInterruptIsTaken :
    (nmiWaiting.run = .running ∧ nmiWaiting.stopReq = false ∧ nmiWaiting.cfg.profile = .full ∧ nmiWaiting.mem.wf = true ∧
      nmiWaiting.nmiPending = true) ∧
    (irqWaiting.run = .running ∧ irqWaiting.stopReq = false ∧ irqWaiting.cfg.profile = .full ∧ irqWaiting.mem.wf = true ∧
      irqWaiting.irqLine = true ∧ irqWaiting.p.getLsbD 2 = false) := by decide

/-- The premise of SubsetStepIgnoresInterruptInputs and SubsetStepIgnoresFlags, in a state with a next state. -/
theorem test_witness_subset_step :
    (placed subset 0x8000 [0xE8]).cfg.profile = .subset ∧ (ran (placed subset 0x8000 [0xE8])).isSome = true := by decide

/-- Both sides of each equivalence of InterruptCheckHasItsPriority; the second is also the premise `IrqAsserted` of
PlaAndPlpPullOneByte, FlagInstructionsForceOneFlag and RtiRestoresStatusAndPc. -/
theorem test_witness_InterruptCheckHasItsPriority :
    nmiWaiting.interruptPending = some .nmi ∧ (irqWaiting.interruptPending = some .irq ∧ IrqAsserted irqWaiting) ∧
    { irqWaiting with p := 0x04 }.interruptPending = none ∧ (State.new subset).interruptPending = none := by decide

theorem test_witness_HaltedAndFaultedHaveNoStep :
    { State.reset with run := .halted }.run = .halted ∧ { State.reset with run := .faulted }.run = .faulted := ⟨rfl, rfl⟩

/-- For StoppingConditionsAreExact and StepKeepsInputsAndParameters, a step of each kind: a stop, a halt, a fault, an
interrupt, an instruction. -/
theorem test_witness_steps_of_each_kind :
    (ran { placed full 0x8000 [0xEA] with stopReq := true }).map State.run = some .halted ∧
    (ran (placed full 0x8000 [0x00])).map State.run = some .halted ∧
    (ran (placed full 0x8000 [0x02])).map State.run = some .faulted ∧
    (ran nmiWaiting).map State.nmiPending = some false ∧
    (ran (placed full 0x8000 [0xEA])).map State.run = some .running := by decide

theorem test_witness_StepKeepsInvariant :
    Inv (placed full 0x8000 [0x48]) ∧ (ran (placed full 0x8000 [0x48])).isSome = true ∧
    Inv { placed full 0x8000 [0x02] with stopReq := true } := by decide

theorem test_witness_ReachableStatesMeetInvariant : Reachable (hostSignalNmi (hostNew full)) :=
  .nmi (.new full)

/-- What `exec` answers, if it is a next state. -/
def executed (i : Instr) (s : State) : Option State :=
  match exec i s with
  | .next t => some t
  | .fault _ => none
  | .refused _ => none

/-- For OnlyListedFlagsChange and OnlyNamedInstructionsWriteARegister: an instruction that changes P, and one for each register
clause. -/
theorem test_witness_executed_instructions :
    (executed .sec (State.new full)).map State.p = some 0x01#8 ∧
    (executed (.ldaImm 0x80#8) (State.new full)).map State.a = some 0x80#8 ∧
    (executed .rorAcc { State.new full with p := 0x01 }).map State.a = some 0x80#8 ∧
    (executed .dex (State.new full)).map State.x = some 0xFF#8 ∧
    (executed .dey (State.new full)).map State.y = some 0xFF#8 ∧
    (executed (.jsr 0x9000#16) (State.new full)).map State.sp = some 0xFE#8 := by decide

/-- For MemoryChangesOnlyAtStoredAddresses: an instruction that stores two bytes, one each side of the wrap, and one that stores
none. -/
theorem test_witness_MemoryChangesOnlyAtStoredAddresses :
    (State.new full).mem.wf = true ∧ storedAddresses (.jsr 0x9000#16) (State.new full) = [0x0100#16, 0x01FF#16] ∧
    (executed (.jsr 0x9000#16) { State.new full with pc := 0x8001 }).map State.mem = some [(0x0100, 0x80#8), (0x01FF, 0x02#8)] ∧
    storedAddresses .aslAcc (State.new full) = [] ∧ (executed .aslAcc (State.new full)).isSome = true := by decide

theorem test_witness_SubsetStepKeepsYAndSpAndMemory :
    (placed subset 0x8000 [0xA9, 0x80]).cfg.profile = .subset ∧
    (ran (placed subset 0x8000 [0xA9, 0x80])).map State.p = some 0x80#8 := by decide

/-- The mnemonic premises of the loads, the comparisons (with the register of each), the logical operations and BIT. -/
theorem test_witness_reading_instructions :
    (Instr.ldaIndx 0xFF#8).mnemonic = .lda ∧ (Instr.ldxAbsy 0xFFFF#16).mnemonic = .ldx ∧ (Instr.ldyImm 0#8).mnemonic = .ldy ∧
    ((Instr.cmpIndy 0xFF#8).mnemonic = .cmp ∧ (State.new full).a = 0x00#8) ∧
    ((Instr.cpxZp 0xFF#8).mnemonic = .cpx ∧ (State.new full).x = 0x00#8) ∧
    ((Instr.cpyAbs 0xFFFF#16).mnemonic = .cpy ∧ (State.new full).y = 0x00#8) ∧
    (Instr.andImm 0xFF#8).mnemonic = .and ∧ (Instr.oraZpx 0xFF#8).mnemonic = .ora ∧ (Instr.eorAbs 0#16).mnemonic = .eor ∧
    (Instr.bitZp 0xFF#8).mnemonic = .bit := by decide

theorem test_witness_StoresWriteOneByte :
    (placed full 0x8000 [0x85]).mem.wf = true ∧
    ((Instr.staIndx 0xFF#8).mnemonic = .sta ∧ (placed full 0x8000 [0x85]).a = 0x00#8) ∧
    ((Instr.stxZpy 0xFF#8).mnemonic = .stx ∧ (placed full 0x8000 [0x85]).x = 0x00#8) ∧
    ((Instr.styAbs 0xFFFF#16).mnemonic = .sty ∧ (placed full 0x8000 [0x85]).y = 0x00#8) := by decide

theorem test_witness_MemoryIncrementsAndDecrements :
    (placed full 0x8000 [0xE6]).mem.wf = true ∧ (Instr.incZpx 0xFF#8).mnemonic = .inc ∧
    (Instr.decAbsx 0xFFFF#16).mnemonic = .dec := by decide

/-- For AdcBinaryAddition and SbcBinarySubtraction: each way in which decimal mode is not in force. -/
theorem test_witness_binary_arithmetic :
    (Instr.adcImm 0xFF#8).mnemonic = .adc ∧ (Instr.sbcAbsy 0xFFFF#16).mnemonic = .sbc ∧
    { State.new full with p := 0x09 }.cfg.decimalMode = .ignored ∧ { State.new nmosFull with p := 0xF7 }.p.getLsbD 3 = false := by
  decide

/-- For AdcDecimalAddition and SbcDecimalSubtraction. -/
theorem test_witness_decimal_arithmetic :
    (Instr.adcImm 0xFF#8).mnemonic = .adc ∧ (Instr.sbcImm 0xFF#8).mnemonic = .sbc ∧
    { State.new nmosFull with p := 0x08 }.cfg.decimalMode = .nmos ∧ { State.new nmosFull with p := 0x08 }.p.getLsbD 3 = true := by
  decide

theorem test_witness_AdcDecimalAddsBcdNumbers : ValidBcd 0x99#8 ∧ ValidBcd 0x00#8 := by decide

theorem test_witness_ShiftsAndRotates :
    (placed full 0x8000 [0x06]).mem.wf = true ∧ (Instr.rorAbsx 0xFFFF#16).mode ≠ .acc ∧ Instr.aslAcc.mode = .acc ∧
    [(Instr.aslZp 0xFF#8).mnemonic, (Instr.lsrZpx 0#8).mnemonic, (Instr.rolAbs 0#16).mnemonic, (Instr.rorAbsx 0xFFFF#16).mnemonic] =
      [.asl, .lsr, .rol, .ror] := by decide

theorem test_witness_PullsUndoPushes :
    { State.new full with sp := 0x00, p := 0xCF }.mem.wf = true ∧
    (0x00#8).getLsbD 4 = { State.new full with p := 0xCF }.p.getLsbD 4 ∧
    (0x00#8).getLsbD 5 = { State.new full with p := 0xCF }.p.getLsbD 5 := by decide

/-- For the clauses with premises: a core in each state outside Running, and a load that is accepted. -/
theorem test_witness_HostResetRestartsTheCore :
    { State.new full with run := .halted }.run ≠ .running ∧ { State.new full with run := .faulted }.run ≠ .running ∧
    hostLoad [0x01#8] { State.new full with run := .halted } =
      .next { poked (State.new full) [(0x8000, 0x01), (0xFFFD, 0x80)] with run := .halted } := ⟨by decide, by decide, rfl⟩

/-- The longest image that is loaded and the shortest that is refused. -/
theorem test_witness_LoadPlacesImageAndVector :
    (placed full 0xFFFF [0x01, 0x02]).mem.wf = true ∧ (List.replicate 0x8000 0x01#8).length ≤ 0x8000 ∧
    0x8000 < (List.replicate 0x8001 0x01#8).length :=
  ⟨by decide, by rw [List.length_replicate], by rw [List.length_replicate]; decide⟩

end Sys2Proof.Tests
end

section
/-! SUPPORT. What an instruction may change, said once for all 151 (10_state.md R34 to R43): a record of the registers, flag
bits and memory a mnemonic writes, one rule per update of the state, and the theorem that `exec` keeps to the record. -/

namespace Sys2Proof.Machine

open Sys2Proof.Safety

/-- What an instruction may write besides PC. -/
structure Writes where
  flags : List Nat := []
  a : Bool := false
  x : Bool := false
  y : Bool := false
  sp : Bool := false
  mem : Bool := false
  halts : Bool := false

/-- `t` differs from `s` in PC and in what `w` lists alone; memory in canonical form stays so. -/
structure ChangesOnly (w : Writes) (s t : State) : Prop where
  flags : BitsKept w.flags s.p t.p
  a : w.a = false → t.a = s.a
  x : w.x = false → t.x = s.x
  y : w.y = false → t.y = s.y
  sp : w.sp = false → t.sp = s.sp
  mem : w.mem = false → t.mem = s.mem
  memWf : s.mem.wf = true → t.mem.wf = true
  run : t.run = if w.halts then .halted else s.run
  fault : t.fault = s.fault
  irqLine : t.irqLine = s.irqLine
  nmiPending : t.nmiPending = s.nmiPending
  stopReq : t.stopReq = s.stopReq
  cfg : t.cfg = s.cfg

/-- The outcome `r` of an instruction run at `s` is a next state that differs from `s` in what `w` lists alone. -/
def CompletesWithin (w : Writes) (s : State) (r : Result) : Prop := ∃ t, r = .next t ∧ ChangesOnly w s t

/-! ## Which bits of P each update of the status byte keeps -/

theorem bitsKept_putFlag (f : Flag) (v : Bool) (p : Byte) : BitsKept [f.bit] p (putFlag f v p) := by
  intro k hk
  rw [getLsbD_putFlag, if_neg (by simpa using hk)]

theorem bitsKept_putZN (v p : Byte) : BitsKept [1, 7] p (putZN v p) := by
  intro k hk
  simp_all [getLsbD_putZN]

theorem bitsKept_putNVZC (r : AluResult) (p : Byte) : BitsKept [0, 1, 6, 7] p (putNVZC r p) := by
  intro k hk
  simp_all [getLsbD_putNVZC]

theorem bitsKept_putCompare (r m p : Byte) : BitsKept [0, 1, 7] p (putCompare r m p) := by
  intro k hk
  simp_all [getLsbD_putCompare]

theorem bitsKept_putBitTest (a m p : Byte) : BitsKept [1, 6, 7] p (putBitTest a m p) := by
  intro k hk
  simp_all [getLsbD_putBitTest]

theorem bitsKept_putShift (r : ShiftResult) (p : Byte) : BitsKept [0, 1, 7] p (putShift r p) := by
  intro k hk
  simp_all [getLsbD_putShift]

/-- A pulled status byte keeps bits 4 and 5 (and P has no bit above 7). -/
theorem bitsKept_pulledStatus (v p : Byte) : BitsKept [0, 1, 2, 3, 6, 7] p (pulledStatus v p) := by
  intro k hk
  by_cases h : k = 4 ∨ k = 5
  · rw [getLsbD_pulledStatus, if_pos h]
  · have hk8 : 8 ≤ k := by
      simp only [List.mem_cons, List.not_mem_nil, or_false] at hk
      omega
    rw [BitVec.getLsbD_of_ge _ k hk8, BitVec.getLsbD_of_ge _ k hk8]

/-! ## One rule per update of the state -/

theorem changesOnly_self (s : State) : ChangesOnly {} s s where
  flags _ _ := rfl
  a _ := rfl
  x _ := rfl
  y _ := rfl
  sp _ := rfl
  mem _ := rfl
  memWf h := h
  run := rfl
  fault := rfl
  irqLine := rfl
  nmiPending := rfl
  stopReq := rfl
  cfg := rfl

namespace ChangesOnly

variable {w : Writes} {s t : State}

theorem setA (h : ChangesOnly w s t) (v : Byte) : ChangesOnly { w with a := true } s (t.setA v) :=
  { h with a := nofun }

theorem setX (h : ChangesOnly w s t) (v : Byte) : ChangesOnly { w with x := true } s (t.setX v) :=
  { h with x := nofun }

theorem setY (h : ChangesOnly w s t) (v : Byte) : ChangesOnly { w with y := true } s (t.setY v) :=
  { h with y := nofun }

theorem setSp (h : ChangesOnly w s t) (v : Byte) : ChangesOnly { w with sp := true } s (t.setSp v) :=
  { h with sp := nofun }

theorem setPc (h : ChangesOnly w s t) (v : Word) : ChangesOnly w s (t.setPc v) :=
  { h with }

theorem setP (h : ChangesOnly w s t) {written : List Nat} {v : Byte} (hv : BitsKept written t.p v) :
    ChangesOnly { w with flags := w.flags ++ written } s (t.setP v) :=
  { h with
    flags := fun k hk => by
      rw [List.mem_append, not_or] at hk
      exact (hv k hk.2).trans (h.flags k hk.1) }

theorem setZN (h : ChangesOnly w s t) (v : Byte) :
    ChangesOnly { w with flags := w.flags ++ [1, 7] } s (t.setZN v) :=
  h.setP (bitsKept_putZN v t.p)

theorem setFlag (h : ChangesOnly w s t) (f : Flag) (v : Bool) :
    ChangesOnly { w with flags := w.flags ++ [f.bit] } s (t.setFlag f v) :=
  h.setP (bitsKept_putFlag f v t.p)

theorem write8 (h : ChangesOnly w s t) (addr : Word) (b : Byte) :
    ChangesOnly { w with mem := true } s (t.write8 addr b) :=
  { h with mem := nofun, memWf := fun hs => State.write8_wf (h.memWf hs) addr b }

theorem push (h : ChangesOnly w s t) (b : Byte) :
    ChangesOnly { w with sp := true, mem := true } s (t.push b) :=
  (h.write8 _ b).setSp _

theorem push16 (h : ChangesOnly w s t) (v : Word) :
    ChangesOnly { w with sp := true, mem := true } s (t.push16 v) :=
  (h.push _).push _

theorem afterPull (h : ChangesOnly w s t) : ChangesOnly { w with sp := true } s t.afterPull :=
  h.setSp _

theorem afterPull16 (h : ChangesOnly w s t) : ChangesOnly { w with sp := true } s t.afterPull16 :=
  h.afterPull.afterPull

theorem halt (h : ChangesOnly w s t) : ChangesOnly { w with halts := true } s t.halt :=
  { h with run := rfl }

end ChangesOnly

/-! ## One rule per shared operation -/

section SharedOperations

variable {o : Operand} {s : State} {ea : Word} {w : Writes}

theorem load_within (hr : resolve o s = .ok ea) {put : State → Byte → State}
    (hput : ∀ v, ChangesOnly w s (put s v)) :
    CompletesWithin { w with flags := w.flags ++ [1, 7] } s (load put o s) :=
  ⟨_, load_eq hr put, ((hput _).setZN _).setPc _⟩

theorem store_within (hr : resolve o s = .ok ea) (value : State → Byte) :
    CompletesWithin { mem := true } s (store value o s) :=
  ⟨_, store_eq hr value, ((changesOnly_self s).write8 ea _).setPc _⟩

theorem changeMemory_within (hr : resolve o s = .ok ea) (change : Byte → Byte) :
    CompletesWithin { flags := [1, 7], mem := true } s (changeMemory change o s) :=
  ⟨_, changeMemory_eq hr change, (((changesOnly_self s).write8 ea _).setZN _).setPc _⟩

theorem arithmetic_within (hr : resolve o s = .ok ea) (compute : Config → Byte → Byte → Byte → AluResult) :
    CompletesWithin { flags := [0, 1, 6, 7], a := true } s (arithmetic compute o s) :=
  have hA := (changesOnly_self s).setA (compute s.cfg s.p s.a (operandValue o ea s)).value
  ⟨_, arithmetic_eq hr compute, (hA.setP (bitsKept_putNVZC _ s.p)).setPc _⟩

theorem logical_within (hr : resolve o s = .ok ea) (combine : Byte → Byte → Byte) :
    CompletesWithin { flags := [1, 7], a := true } s (logical combine o s) :=
  ⟨_, logical_eq hr combine, (((changesOnly_self s).setA _).setZN _).setPc _⟩

theorem compare_within (hr : resolve o s = .ok ea) (register : State → Byte) :
    CompletesWithin { flags := [0, 1, 7] } s (compare register o s) :=
  ⟨_, compare_eq hr register, ((changesOnly_self s).setP (bitsKept_putCompare _ _ s.p)).setPc _⟩

theorem bitTest_within (hr : resolve o s = .ok ea) :
    CompletesWithin { flags := [1, 6, 7] } s (bitTest o s) :=
  ⟨_, bitTest_eq hr, ((changesOnly_self s).setP (bitsKept_putBitTest _ _ s.p)).setPc _⟩

theorem shiftMemory_within (hr : resolve o s = .ok ea) (compute : Byte → Bool → ShiftResult) :
    CompletesWithin { flags := [0, 1, 7], mem := true } s (shiftMemory compute o s) :=
  ⟨_, shiftMemory_eq hr compute, (((changesOnly_self s).write8 ea _).setP (bitsKept_putShift _ s.p)).setPc _⟩

theorem shiftAccumulator_within (compute : Byte → Bool → ShiftResult) (s : State) :
    CompletesWithin { flags := [0, 1, 7], a := true } s (shiftAccumulator compute s) :=
  ⟨_, shiftAccumulator_eq compute s, ((changesOnly_self s).setA _).setP (bitsKept_putShift _ s.p)⟩

theorem forceFlag_within (f : Flag) (value : Bool) (s : State) :
    CompletesWithin { flags := [f.bit] } s (forceFlag f value s) :=
  ⟨_, forceFlag_eq f value s, (changesOnly_self s).setFlag f value⟩

theorem jump_within (hr : resolve o s = .ok ea) : CompletesWithin {} s (jump o s) :=
  ⟨_, jump_eq hr, (changesOnly_self s).setPc ea⟩

theorem jumpSubroutine_within (hr : resolve o s = .ok ea) :
    CompletesWithin { sp := true, mem := true } s (jumpSubroutine o s) :=
  ⟨_, jumpSubroutine_eq hr, ((changesOnly_self s).push16 _).setPc ea⟩

theorem branch_within (f : Flag) (value : Bool) (off8 : Byte) (s : State) :
    CompletesWithin {} s (branch f value (.rel off8) s) :=
  ⟨_, branch_eq f value off8 s, (changesOnly_self s).setPc _⟩

theorem registerResult_within {put : State → Byte → State} (hput : ∀ v, ChangesOnly w s (put s v))
    (value : State → Byte) :
    CompletesWithin { w with flags := w.flags ++ [1, 7] } s (registerResult put value s) :=
  ⟨_, rfl, ((hput _).setZN _).setPc _⟩

/-- An instruction of mode IMP whose handler answers `Next`. -/
theorem runUnresolved_next_within {handler : State → State} (h : ChangesOnly w s (handler s)) :
    CompletesWithin w s (runUnresolved (fun s => .next (handler s)) s) :=
  ⟨_, rfl, h.setPc _⟩

/-- An instruction of mode IMP whose handler answers `Jump`. -/
theorem runUnresolved_jump_within {target : State → Word} {handler : State → State} (h : ChangesOnly w s (handler s)) :
    CompletesWithin w s (runUnresolved (fun s => .jump (target s) (handler s)) s) :=
  ⟨_, rfl, h.setPc _⟩

end SharedOperations

/-! ## Every instruction -/

/-- What each instruction writes: the flags of its rule, and the registers by the lists of 10_state.md R34 to R37. -/
def writtenBy (i : Instr) : Writes where
  flags := flagBitsWritten i.mnemonic
  a := decide (i.mnemonic ∈ [.lda, .txa, .tya, .pla, .adc, .sbc, .and, .ora, .eor] ∨
    (i.mnemonic ∈ [.asl, .lsr, .rol, .ror] ∧ i.mode = .acc))
  x := decide (i.mnemonic ∈ [.ldx, .tax, .tsx, .inx, .dex])
  y := decide (i.mnemonic ∈ [.ldy, .tay, .iny, .dey])
  sp := decide (i.mnemonic ∈ [.txs, .pha, .php, .pla, .plp, .jsr, .rts, .rti])
  mem := decide (i.mnemonic ∈ [.sta, .stx, .sty, .inc, .dec, .pha, .php, .jsr] ∨
    (i.mnemonic ∈ [.asl, .lsr, .rol, .ror] ∧ i.mode ≠ .acc))
  halts := decide (i = .brk)

/-- Every instruction completes, and changes only what it is listed to write. -/
theorem exec_within (i : Instr) (s : State) : CompletesWithin (writtenBy i) s (exec i s) := by
  unfold exec
  cases i with
  | brk => exact runUnresolved_next_within (changesOnly_self s).halt
  | ldaImm v | ldaZp v | ldaZpx v | ldaAbs v | ldaAbsx v | ldaAbsy v | ldaIndx v | ldaIndy v =>
    exact load_within rfl (changesOnly_self s).setA
  | ldxImm v | ldxZp v | ldxZpy v | ldxAbs v | ldxAbsy v => exact load_within rfl (changesOnly_self s).setX
  | ldyImm v | ldyZp v | ldyZpx v | ldyAbs v | ldyAbsx v => exact load_within rfl (changesOnly_self s).setY
  | staZp v | staZpx v | staAbs v | staAbsx v | staAbsy v | staIndx v | staIndy v | stxZp v | stxZpy v | stxAbs v
  | styZp v | styZpx v | styAbs v => exact store_within rfl _
  | tax | tsx | inx | dex => exact registerResult_within (changesOnly_self s).setX _
  | tay | iny | dey => exact registerResult_within (changesOnly_self s).setY _
  | txa | tya => exact registerResult_within (changesOnly_self s).setA _
  | txs => exact runUnresolved_next_within ((changesOnly_self s).setSp s.x)
  | incZp v | incZpx v | incAbs v | incAbsx v | decZp v | decZpx v | decAbs v | decAbsx v =>
    exact changeMemory_within rfl _
  | adcImm v | adcZp v | adcZpx v | adcAbs v | adcAbsx v | adcAbsy v | adcIndx v | adcIndy v
  | sbcImm v | sbcZp v | sbcZpx v | sbcAbs v | sbcAbsx v | sbcAbsy v | sbcIndx v | sbcIndy v =>
    exact arithmetic_within rfl _
  | andImm v | andZp v | andZpx v | andAbs v | andAbsx v | andAbsy v | andIndx v | andIndy v
  | oraImm v | oraZp v | oraZpx v | oraAbs v | oraAbsx v | oraAbsy v | oraIndx v | oraIndy v
  | eorImm v | eorZp v | eorZpx v | eorAbs v | eorAbsx v | eorAbsy v | eorIndx v | eorIndy v =>
    exact logical_within rfl _
  | cmpImm v | cmpZp v | cmpZpx v | cmpAbs v | cmpAbsx v | cmpAbsy v | cmpIndx v | cmpIndy v
  | cpxImm v | cpxZp v | cpxAbs v | cpyImm v | cpyZp v | cpyAbs v => exact compare_within rfl _
  | bitZp v | bitAbs v => exact bitTest_within rfl
  | aslAcc | lsrAcc | rolAcc | rorAcc => exact shiftAccumulator_within _ s
  | aslZp v | aslZpx v | aslAbs v | aslAbsx v | lsrZp v | lsrZpx v | lsrAbs v | lsrAbsx v
  | rolZp v | rolZpx v | rolAbs v | rolAbsx v | rorZp v | rorZpx v | rorAbs v | rorAbsx v =>
    exact shiftMemory_within rfl _
  | jmpAbs v | jmpInd v => exact jump_within rfl
  | jsr v => exact jumpSubroutine_within rfl
  | bpl v | bmi v | bvc v | bvs v | bcc v | bcs v | bne v | beq v => exact branch_within _ _ v s
  | pha => exact runUnresolved_next_within ((changesOnly_self s).push s.a)
  | php => exact runUnresolved_next_within ((changesOnly_self s).push (pushedByPhp s.p))
  | pla => exact runUnresolved_next_within (((changesOnly_self s).afterPull.setA s.pulled).setZN s.pulled)
  | plp => exact runUnresolved_next_within ((changesOnly_self s).afterPull.setP (bitsKept_pulledStatus s.pulled s.p))
  | clc | sec | cli | sei | cld | sed | clv => exact forceFlag_within _ _ s
  | nop => exact runUnresolved_next_within (changesOnly_self s)
  | rts => exact runUnresolved_jump_within (changesOnly_self s).afterPull16
  | rti =>
    have hP := (changesOnly_self s).afterPull.setP (bitsKept_pulledStatus s.pulled s.p)
    exact runUnresolved_jump_within hP.afterPull16

/-- What `exec` answers differs from the state it was asked in by what the instruction is listed to write alone. -/
theorem exec_changesOnly {i : Instr} {s t : State} (h : exec i s = .next t) : ChangesOnly (writtenBy i) s t := by
  obtain ⟨u, hu, hw⟩ := exec_within i s
  cases h.symm.trans hu
  exact hw

end Sys2Proof.Machine
end

section
/-! SUPPORT. The engine's step as equations, one per branch (40_execution_engine.md R131 to R133), and what SUBSET decodes
(30_encoding.md R109). -/

namespace Sys2Proof

/-! ## What a table cell decodes to -/

/-- Every instruction a table cell can stand for, whatever its operand bytes, has the property. -/
def Template.Yields (P : Instr → Prop) : Template → Prop
  | .unimplemented => True
  | .implied i => P i
  | .byte mk => ∀ b, P (mk b)
  | .word mk => ∀ w, P (mk w)

theorem decode_of_yields {P : Instr → Prop} {pr : Profile} {opcode : Byte} {tail rest : List Byte} {i : Instr}
    (hP : (lookup pr opcode).Yields P) (h : decode pr (opcode :: tail) = .ok (i, rest)) : P i := by
  rw [decode] at h
  cases hl : lookup pr opcode with rw [hl] at h hP
  | unimplemented => cases h
  | implied j => cases h; exact hP
  | byte mk =>
    cases tail with
    | nil => cases h
    | cons b _ => cases h; exact hP b
  | word mk =>
    match tail, h with
    | lo :: hi :: _, h => cases h; exact hP _

/-- The eleven bytes of the SUBSET map stand for BRK, the eight modes of LDA, TAX and INX, in this order. -/
theorem templateAt_yields_inSubset :
    ∀ b ∈ subsetOpcodes, (templateAt b).Yields fun i => i.mnemonic.inSubset = true := by
  simp only [subsetOpcodes, List.forall_mem_cons]
  exact ⟨rfl, fun _ => rfl, fun _ => rfl, fun _ => rfl, fun _ => rfl, fun _ => rfl, fun _ => rfl, fun _ => rfl,
    fun _ => rfl, rfl, rfl, nofun⟩

theorem lookup_subset_yields (opcode : Byte) :
    (lookup .subset opcode).Yields fun i => i.mnemonic.inSubset = true := by
  rw [lookup]
  split_ifs with hb
  · exact templateAt_yields_inSubset opcode hb
  · trivial

theorem decode_subset_inSubset {bytes rest : List Byte} {i : Instr} (h : decode .subset bytes = .ok (i, rest)) :
    i.mnemonic.inSubset = true := by
  cases bytes with
  | nil => cases h
  | cons opcode tail => exact decode_of_yields (lookup_subset_yields opcode) h

theorem Mnemonic.inSubset_iff {m : Mnemonic} : m.inSubset = true ↔ m = .brk ∨ m = .lda ∨ m = .tax ∨ m = .inx := by
  simp [Mnemonic.inSubset, or_assoc]

/-- The instructions of SUBSET: BRK, TAX and INX have one row each, LDA has eight. -/
theorem Instr.inSubset_cases {i : Instr} (h : i.mnemonic.inSubset = true) :
    i = .brk ∨ i.mnemonic = .lda ∨ i = .tax ∨ i = .inx := by
  rcases Mnemonic.inSubset_iff.1 h with hm | hm | hm | hm
  · left; cases i <;> cases hm; rfl
  · exact .inr (.inl hm)
  · right; right; left; cases i <;> cases hm; rfl
  · right; right; right; cases i <;> cases hm; rfl

namespace Machine

open Sys2Proof.Safety

variable {s : State}

/-! ## The branches of a step -/

theorem step_of_halted (hr : s.run = .halted) : step s = .fault .engineHalted := by
  rw [step, engineStep, hr]

theorem step_of_faulted (hr : s.run = .faulted) : step s = .fault .engineFaulted := by
  rw [step, engineStep, hr]

theorem step_of_stopReq (hr : s.run = .running) (hs : s.stopReq = true) : step s = .next s.stop := by
  rw [step, engineStep, hr]
  exact if_pos hs

theorem step_of_ready (h : ReadyForInstruction s) : step s = runInstruction exec s := by
  obtain ⟨hr, hs, hk⟩ := h
  rw [step, engineStep, hr, hs, hk]
  rfl

theorem runInstruction_of_decode {executor : Instr → State → Result} {i : Instr} {rest : List Byte}
    (h : decode s.cfg.profile s.fetchBytes = .ok (i, rest)) : runInstruction executor s = executor i s.afterFetch := by
  rw [runInstruction, h]

theorem runInstruction_of_error {executor : Instr → State → Result} {e : DecodeError}
    (h : decode s.cfg.profile s.fetchBytes = .error e) :
    runInstruction executor s = .next (s.afterFetch.raiseFault .unimplementedOpcode (s.read8 s.pc) s.pc) := by
  rw [runInstruction, h]

theorem interruptPending_of_subset (h : s.cfg.profile = .subset) : s.interruptPending = none := by
  rw [State.interruptPending, h]

/-- With neither input raised no interrupt is pending (60_exceptions.md R310). -/
theorem interruptPending_of_quiet (hn : s.nmiPending = false) (hi : s.irqLine = false) : s.interruptPending = none := by
  refine Option.eq_none_iff_forall_ne_some.2 fun k hk => ?_
  obtain ⟨-, ⟨-, hn'⟩ | ⟨-, -, hi', -⟩⟩ := interruptPending_cases hk
  · exact absurd hn' (by simp [hn])
  · exact absurd hi' (by simp [hi])

end Machine

end Sys2Proof
end

section
/-! CLAIMS. The statements of 10_state.md: the invariant, the frames of flags and registers, profile SUBSET, the reset state. -/

namespace Sys2Proof.Proofs

open Sys2Proof.Machine Sys2Proof.Safety

/-! ## The invariant -/

/-- No instruction is listed to write bit 4 or bit 5 of P (10_state.md R43). -/
theorem not_mem_flagBitsWritten (m : Mnemonic) : 4 ∉ flagBitsWritten m ∧ 5 ∉ flagBitsWritten m := by
  cases m <;> decide

/-- From Running the invariant passes to a state outside Faulted with canonical memory, the same FAULT and the same bits 4
and 5 of P. -/
theorem inv_of_unfaulted {s t : State} {written : List Nat} (hs : Inv s) (hrun : s.run = .running)
    (hmem : t.mem.wf = true) (hfault : t.fault = s.fault) (hrun' : t.run ≠ .faulted) (hp : BitsKept written s.p t.p)
    (hw4 : 4 ∉ written) (hw5 : 5 ∉ written) : Inv t := by
  obtain ⟨-, hiff, h4, h5⟩ := hs
  refine ⟨hmem, ?_, (hp 4 hw4).trans h4, (hp 5 hw5).trans h5⟩
  rw [hfault, hiff, hrun]
  exact iff_of_false nofun hrun'

theorem inv_stop {s : State} (hs : Inv s) (hrun : s.run = .running) : Inv s.stop := by
  have hmem := hs.1
  exact inv_of_unfaulted (written := []) hs hrun hmem rfl nofun (fun _ _ => rfl) nofun nofun

theorem inv_takeInterrupt {s : State} (hs : Inv s) (hrun : s.run = .running) (k : Interrupt) :
    Inv (s.takeInterrupt k) := by
  have hmem := State.takeInterrupt_wf hs.1 k
  have hp : BitsKept [Flag.i.bit] s.p (s.takeInterrupt k).p := by
    rw [State.takeInterrupt_p]
    exact bitsKept_putFlag .i true s.p
  exact inv_of_unfaulted hs hrun hmem (by simp) (by simp [hrun]) hp (by decide) (by decide)

theorem inv_exec {s t : State} {i : Instr} (hs : Inv s) (hrun : s.run = .running) (h : exec i s = .next t) : Inv t := by
  have hw := exec_changesOnly h
  have hrun' : t.run ≠ .faulted := by
    rw [hw.run, hrun]
    split_ifs <;> nofun
  obtain ⟨h4, h5⟩ := not_mem_flagBitsWritten i.mnemonic
  exact inv_of_unfaulted hs hrun (hw.memWf hs.1) hw.fault hrun' hw.flags h4 h5

theorem inv_raiseFault {s : State} (hs : Inv s) (code : FaultCode) (opcode : Byte) (opAddr : Word) :
    Inv (s.raiseFault code opcode opAddr) := by
  obtain ⟨hmem, -, h4, h5⟩ := hs
  exact ⟨hmem, iff_of_true rfl rfl, h4, h5⟩

theorem inv_afterFetch {s : State} (hs : Inv s) : Inv s.afterFetch := hs

/-- Settles O18: each of the four things a step can do keeps the invariant; only the undecodable byte enters Faulted, and it
leaves a record. -/
theorem stepKeepsInvariant : Obligations.StepKeepsInvariant := by
  intro s t hs h
  obtain ⟨hrun, ⟨-, rfl⟩ | ⟨-, k, -, rfl⟩ | ⟨-, -, i, -, -, hexec⟩ | ⟨-, -, -, -, rfl⟩⟩ := step_cases h
  · exact inv_stop hs hrun
  · exact inv_takeInterrupt hs hrun k
  · exact inv_exec (inv_afterFetch hs) hrun hexec
  · exact inv_raiseFault (inv_afterFetch hs) _ _ _

/-! ## The host's operations keep the invariant -/

theorem inv_new (cfg : Config) : Inv (hostNew cfg) :=
  ⟨rfl, iff_of_false nofun nofun, BitVec.getLsbD_zero, BitVec.getLsbD_zero⟩

/-- `reset` needs canonical memory alone: it empties FAULT and zeroes P. -/
theorem inv_hostReset {s : State} (hs : s.mem.wf = true) : Inv (hostReset s) :=
  ⟨hs, iff_of_false nofun nofun, BitVec.getLsbD_zero, BitVec.getLsbD_zero⟩

theorem inv_write8 {s : State} (hs : Inv s) (addr : Word) (b : Byte) : Inv (s.write8 addr b) := by
  obtain ⟨hmem, hrest⟩ := hs
  exact ⟨State.write8_wf hmem addr b, hrest⟩

theorem inv_write16 {s : State} (hs : Inv s) (addr w : Word) : Inv (s.write16 addr w) :=
  inv_write8 (inv_write8 hs _ _) _ _

theorem inv_writeBytes {s : State} (hs : Inv s) (addr : Word) (bytes : List Byte) : Inv (s.writeBytes addr bytes) := by
  induction bytes generalizing s addr with
  | nil => exact hs
  | cons b rest ih => exact ih (inv_write8 hs addr b) _

theorem inv_hostLoad {s t : State} {image : List Byte} (hs : Inv s) (h : hostLoad image s = .next t) : Inv t := by
  rw [hostLoad] at h
  split_ifs at h
  cases h
  exact inv_write16 (inv_writeBytes hs _ _) _ _

/-- Settles O20, by induction on how the state was reached. -/
theorem reachableStatesMeetInvariant : Obligations.ReachableStatesMeetInvariant := by
  intro s h
  induction h with
  | new cfg => exact inv_new cfg
  | step _ hstep ih => exact stepKeepsInvariant _ _ ih hstep
  | reset _ ih => exact inv_hostReset ih.1
  | load image _ hload ih => exact inv_hostLoad ih hload
  | write8 addr b _ ih => exact inv_write8 ih addr b
  | write16 addr w _ ih => exact inv_write16 ih addr w
  | stop _ ih => exact ih
  | irq _ _ ih => exact ih
  | nmi _ ih => exact ih

/-- Settles O19: memory and FAULT are empty and P is 0 in the reset state. -/
theorem resetMeetsInvariant : Obligations.ResetMeetsInvariant :=
  ⟨reset_mem_wf, iff_of_false nofun nofun, rfl, rfl⟩

/-! ## Flags and registers -/

/-- Settles O21: the listed bits are those of the instruction's record of writes. -/
theorem onlyListedFlagsChange : Obligations.OnlyListedFlagsChange :=
  fun _ _ _ h => (exec_changesOnly h).flags

/-- Settles O22: the record of writes marks a register for the listed instructions alone. -/
theorem onlyNamedInstructionsWriteARegister : Obligations.OnlyNamedInstructionsWriteARegister := by
  intro i s t h
  have hw := exec_changesOnly h
  refine ⟨fun ha => ?_, fun hx => ?_, fun hy => ?_, fun hsp => ?_⟩
  · exact of_decide_eq_true (eq_true_of_ne_false (mt hw.a ha))
  · exact of_decide_eq_true (eq_true_of_ne_false (mt hw.x hx))
  · exact of_decide_eq_true (eq_true_of_ne_false (mt hw.y hy))
  · exact of_decide_eq_true (eq_true_of_ne_false (mt hw.sp hsp))

/-! ## Profile SUBSET -/

/-- BRK, LDA, TAX and INX write no Y, no SP, no memory and no flag but Z and N. -/
theorem writtenBy_of_inSubset {i : Instr} (h : i.mnemonic.inSubset = true) :
    (writtenBy i).y = false ∧ (writtenBy i).sp = false ∧ (writtenBy i).mem = false ∧ (writtenBy i).flags ⊆ [1, 7] := by
  rcases Mnemonic.inSubset_iff.1 h with hm | hm | hm | hm <;> simp [writtenBy, flagBitsWritten, hm]

/-- Settles O25: under SUBSET no interrupt is taken, and every decoded instruction is one of BRK, LDA, TAX and INX. -/
theorem subsetStepKeepsYAndSpAndMemory : Obligations.SubsetStepKeepsYAndSpAndMemory := by
  intro s t hprofile h
  obtain ⟨-, ⟨-, rfl⟩ | ⟨-, k, hk, -⟩ | ⟨-, -, i, rest, hd, hexec⟩ | ⟨-, -, -, -, rfl⟩⟩ := step_cases h
  · exact ⟨rfl, rfl, rfl, fun _ _ => rfl⟩
  · rw [interruptPending_of_subset hprofile] at hk
    cases hk
  · rw [hprofile] at hd
    have hw := exec_changesOnly hexec
    obtain ⟨hy, hsp, hmem, hflags⟩ := writtenBy_of_inSubset (decode_subset_inSubset hd)
    exact ⟨hw.y hy, hw.sp hsp, hw.mem hmem, fun b hb => hw.flags b (mt (hflags ·) hb)⟩
  · exact ⟨rfl, rfl, rfl, fun _ _ => rfl⟩

/-- An instruction of SUBSET does not read P: run under another P it answers the same but for P (10_state.md R44). -/
theorem exec_setP_of_inSubset {i : Instr} (h : i.mnemonic.inSubset = true) (s : State) (q : Byte) :
    mapNext (fun t => { t with p := 0x00#8 }) (exec i (s.setP q)) =
      mapNext (fun t => { t with p := 0x00#8 }) (exec i s) := by
  rcases Instr.inSubset_cases h with rfl | hlda | rfl | rfl
  · rfl
  · obtain ⟨hexec, ea, hea⟩ := exec_lda hlda s
    have hea' : resolve i.operand (s.setP q) = .ok ea := (resolve_congr rfl rfl rfl rfl _).trans hea
    have hvalue : operandValue i.operand ea (s.setP q) = operandValue i.operand ea s := operandValue_congr rfl _ _
    rw [hexec, (exec_lda hlda (s.setP q)).1, load_eq hea, load_eq hea', hvalue]
    rfl
  · rfl
  · rfl

/-- Settles O26, along the branches of a step: the stop, the fetch and the decoding read no flag, and neither do the
instructions of SUBSET. -/
theorem subsetStepIgnoresFlags : Obligations.SubsetStepIgnoresFlags := by
  intro s q hprofile
  change mapNext _ (step (s.setP q)) = _
  cases hrun : s.run with
  | halted => rw [step_of_halted hrun, step_of_halted (s := s.setP q) hrun]
  | faulted => rw [step_of_faulted hrun, step_of_faulted (s := s.setP q) hrun]
  | running =>
    cases hstop : s.stopReq with
    | true =>
      rw [step_of_stopReq hrun hstop, step_of_stopReq (s := s.setP q) hrun hstop]
      rfl
    | false =>
      rw [step_of_ready ⟨hrun, hstop, interruptPending_of_subset hprofile⟩,
        step_of_ready (s := s.setP q) ⟨hrun, hstop, interruptPending_of_subset hprofile⟩]
      cases hd : decode s.cfg.profile s.fetchBytes with
      | error e =>
        rw [runInstruction_of_error hd, runInstruction_of_error (s := s.setP q) hd]
        rfl
      | ok r =>
        obtain ⟨i, rest⟩ := r
        rw [runInstruction_of_decode hd, runInstruction_of_decode (s := s.setP q) hd]
        rw [hprofile] at hd
        exact exec_setP_of_inSubset (decode_subset_inSubset hd) s.afterFetch q

/-! ## The reset state -/

/-- Memory after `new` is zeroed, and 0x00 is BRK under either profile. -/
theorem decode_fetchBytes_new (cfg : Config) :
    decode cfg.profile (hostNew cfg).fetchBytes = .ok (.brk, [0x00#8, 0x00#8]) := by
  have hbytes : (hostNew cfg).fetchBytes = [0x00#8, 0x00#8, 0x00#8] := rfl
  have hlookup : lookup cfg.profile 0x00#8 = .implied .brk := by cases cfg.profile <;> rfl
  rw [hbytes, decode, hlookup]

/-- Settles O57: the vector in zeroed memory is 0x0000, where the first step fetches BRK. -/
theorem resetAfterNew : Obligations.ResetAfterNew := by
  refine ⟨rfl, fun cfg => ?_⟩
  rw [step_of_ready ⟨rfl, rfl, interruptPending_of_quiet rfl rfl⟩, runInstruction_of_decode (decode_fetchBytes_new cfg)]
  rfl

end Sys2Proof.Proofs
end

section
/-! SUPPORT. Which bytes of memory a write, a push and each instruction store to, as a list of byte writes in order
(20_memory.md R63, R65, R70, R72), and that every byte outside the list is kept. -/

namespace Sys2Proof.Machine

open Sys2Proof.Safety

variable {s t : State}

/-! ## A list of byte writes -/

/-- Memory `m` becomes `m'` by one byte write at each listed address, in this order. -/
inductive WritesAt : List Word → Memory → Memory → Prop where
  | nil (m : Memory) : WritesAt [] m m
  | cons (a : Word) (b : Byte) {stored : List Word} {m m' : Memory}
      (rest : WritesAt stored (Memory.write m a.toNat b) m') : WritesAt (a :: stored) m m'

theorem writesAt_nil_iff {m m' : Memory} : WritesAt [] m m' ↔ m' = m := by
  constructor
  · rintro ⟨⟩
    rfl
  · rintro rfl
    exact .nil _

theorem WritesAt.read_eq {stored : List Word} {m m' : Memory} (h : WritesAt stored m m') (hm : m.wf = true) {a : Word}
    (ha : a ∉ stored) : Memory.read m' a.toNat = Memory.read m a.toNat := by
  induction h with
  | nil m => rfl
  | cons c b _ ih =>
    obtain ⟨hac, hrest⟩ := not_or.1 (mt List.mem_cons.2 ha)
    rw [ih (Memory.write_wf b c.isLt hm) hrest, Memory.read_write _ _ _ hm, if_neg (mt BitVec.eq_of_toNat_eq hac)]

/-- Byte writes keep every byte outside their addresses. -/
theorem WritesAt.bytesKept {stored : List Word} (h : WritesAt stored s.mem t.mem) (hs : s.mem.wf = true) :
    BytesKept stored s t :=
  fun _ ha => h.read_eq hs ha

theorem write8_writesAt (s : State) (a : Word) (b : Byte) : WritesAt [a] s.mem (s.write8 a b).mem :=
  .cons a b (.nil _)

theorem write16_writesAt (s : State) (a w : Word) : WritesAt [a, a + 1#16] s.mem (s.write16 a w).mem :=
  .cons a (loByte w) (write8_writesAt (s.write8 a (loByte w)) _ _)

theorem push_writesAt (s : State) (b : Byte) : WritesAt [stackAddr s.sp] s.mem (s.push b).mem :=
  write8_writesAt s _ b

theorem push16_writesAt (s : State) (w : Word) :
    WritesAt [stackAddr s.sp, stackAddr (s.sp - 1#8)] s.mem (s.push16 w).mem :=
  .cons _ (hiByte w) (push_writesAt (s.push (hiByte w)) _)

/-! ## Words in memory and on the stack -/

theorem State.toNat_read16 (s : State) (a : Word) :
    (s.read16 a).toNat = (s.read8 a).toNat + 256 * (s.read8 (a + 1#16)).toNat := by
  rw [State.read16, toNat_mkWord, Nat.add_comm]

theorem State.read8_write16 (hs : s.mem.wf = true) (a w a' : Word) :
    (s.write16 a w).read8 a' = if a' = a + 1#16 then hiByte w else if a' = a then loByte w else s.read8 a' := by
  rw [State.write16, State.read8_write8 (State.write8_wf hs _ _), State.read8_write8 hs]

/-- The low byte is written first, and the write of the high byte, at another address, leaves it. -/
theorem State.read8_write16_low (hs : s.mem.wf = true) (a w : Word) : (s.write16 a w).read8 a = loByte w := by
  have hne : a ≠ a + 1#16 := by bv_omega
  rw [State.read8_write16 hs, if_neg hne, if_pos rfl]

theorem State.read8_write16_high (hs : s.mem.wf = true) (a w : Word) :
    (s.write16 a w).read8 (a + 1#16) = hiByte w := by
  rw [State.read8_write16 hs, if_pos rfl]

theorem State.read16_write16 (hs : s.mem.wf = true) (a w : Word) : (s.write16 a w).read16 a = w := by
  rw [State.read16, State.read8_write16_low hs, State.read8_write16_high hs, mkWord_hiByte_loByte]

theorem State.read8_push16_low (hs : s.mem.wf = true) (w : Word) :
    (s.push16 w).read8 (stackAddr (s.sp - 1#8)) = loByte w := by
  rw [State.read8_push16 hs, if_pos rfl]

/-- The high byte is pushed first, and the push of the low byte, at another slot, leaves it. -/
theorem State.read8_push16_high (hs : s.mem.wf = true) (w : Word) :
    (s.push16 w).read8 (stackAddr s.sp) = hiByte w := by
  have hne : s.sp ≠ s.sp - 1#8 := by bv_omega
  rw [State.read8_push16 hs, if_neg (mt stackAddr_inj.1 hne), if_pos rfl]

theorem State.pulled16_eq (s : State) :
    s.pulled16 = mkWord (s.read8 (stackAddr (s.sp + 1#8 + 1#8))) (s.read8 (stackAddr (s.sp + 1#8))) := rfl

theorem State.pulled16_push16 (hs : s.mem.wf = true) (w : Word) : (s.push16 w).pulled16 = w := by
  have hlow : s.sp - 1#8 - 1#8 + 1#8 = s.sp - 1#8 := BitVec.sub_add_cancel _ _
  have hhigh : s.sp - 1#8 + 1#8 = s.sp := BitVec.sub_add_cancel _ _
  rw [State.pulled16_eq, State.push16_sp, hlow, hhigh, State.read8_push16_high hs, State.read8_push16_low hs,
    mkWord_hiByte_loByte]

/-! ## What each instruction stores -/

/-- The outcome `r` of an instruction run at `s` is a next state whose memory is that of `s` after one byte write at each
listed address. -/
def CompletesWriting (stored : List Word) (s : State) (r : Result) : Prop :=
  ∃ t, r = .next t ∧ WritesAt stored s.mem t.mem

section SharedOperations

variable {o : Operand} {ea : Word}

theorem store_writes (hr : resolve o s = .ok ea) (value : State → Byte) :
    CompletesWriting [ea] s (store value o s) :=
  ⟨_, store_eq hr value, write8_writesAt s ea _⟩

theorem changeMemory_writes (hr : resolve o s = .ok ea) (change : Byte → Byte) :
    CompletesWriting [ea] s (changeMemory change o s) :=
  ⟨_, changeMemory_eq hr change, write8_writesAt s ea _⟩

theorem shiftMemory_writes (hr : resolve o s = .ok ea) (compute : Byte → Bool → ShiftResult) :
    CompletesWriting [ea] s (shiftMemory compute o s) :=
  ⟨_, shiftMemory_eq hr compute, write8_writesAt s ea _⟩

theorem jumpSubroutine_writes (hr : resolve o s = .ok ea) :
    CompletesWriting [stackAddr s.sp, stackAddr (s.sp - 1#8)] s (jumpSubroutine o s) :=
  ⟨_, jumpSubroutine_eq hr, push16_writesAt s _⟩

theorem runUnresolved_push_writes (value : State → Byte) (s : State) :
    CompletesWriting [stackAddr s.sp] s (runUnresolved (fun s => .next (s.push (value s))) s) :=
  ⟨_, rfl, push_writesAt s _⟩

end SharedOperations

/-- An instruction that is not listed to write memory leaves it as it is. -/
theorem exec_writes_nothing {i : Instr} (h : (writtenBy i).mem = false) (s : State) :
    CompletesWriting [] s (exec i s) := by
  obtain ⟨t, ht, hw⟩ := exec_within i s
  exact ⟨t, ht, writesAt_nil_iff.2 (hw.mem h)⟩

/-- Every instruction writes one byte at each of its `storedAddresses`, in their order, and nothing else of memory. -/
theorem exec_writes (i : Instr) (s : State) : CompletesWriting (storedAddresses i s) s (exec i s) := by
  -- taken before `exec` unfolds, for all the instructions that store nothing
  have nothing : (writtenBy i).mem = false → CompletesWriting [] s (exec i s) := fun h => exec_writes_nothing h s
  unfold exec
  cases i with
  | staZp v | staZpx v | staAbs v | staAbsx v | staAbsy v | staIndx v | staIndy v | stxZp v | stxZpy v | stxAbs v
  | styZp v | styZpx v | styAbs v => exact store_writes rfl _
  | incZp v | incZpx v | incAbs v | incAbsx v | decZp v | decZpx v | decAbs v | decAbsx v =>
    exact changeMemory_writes rfl _
  | aslZp v | aslZpx v | aslAbs v | aslAbsx v | lsrZp v | lsrZpx v | lsrAbs v | lsrAbsx v
  | rolZp v | rolZpx v | rolAbs v | rolAbsx v | rorZp v | rorZpx v | rorAbs v | rorAbsx v =>
    exact shiftMemory_writes rfl _
  | pha => exact runUnresolved_push_writes State.a s
  | php => exact runUnresolved_push_writes (fun s => pushedByPhp s.p) s
  | jsr v => exact jumpSubroutine_writes rfl
  | _ => exact nothing rfl

end Sys2Proof.Machine
end

section
/-! CLAIMS. The statements of 20_memory.md: words in memory, the stack, and where instructions write. -/

namespace Sys2Proof.Proofs

open Sys2Proof.Machine Sys2Proof.Safety

/-- Settles O6: the two bytes of a word lie at different addresses, also where the second wraps to 0x0000. -/
theorem wordReadAfterWordWrite : Obligations.WordReadAfterWordWrite := by
  intro s addr w hs
  refine ⟨s.toNat_read16 addr, State.read16_write16 hs addr w, ?_, ?_, (write16_writesAt s addr w).bytesKept hs,
    s.write16_eq addr w⟩
  · rw [State.read8_write16_low hs, toNat_loByte]
  · rw [State.read8_write16_high hs, toNat_hiByte]

theorem push_at_stackAddr_undone_by_pull {s : State} (hs : s.mem.wf = true) (b : Byte) :
    s.push b = { s with sp := s.sp - 1#8, mem := (s.push b).mem } ∧ (s.push b).read8 (stackAddr s.sp) = b ∧
    BytesKept [stackAddr s.sp] s (s.push b) ∧ (s.push b).pulled = b ∧ (s.push b).afterPull.sp = s.sp := by
  refine ⟨rfl, ?_, (push_writesAt s b).bytesKept hs, State.pulled_push hs b, ?_⟩
  · rw [State.read8_push hs, if_pos rfl]
  · rw [State.afterPull_sp, State.push_sp, BitVec.sub_add_cancel]

theorem push16_highByteFirst_undone_by_pull16 {s : State} (hs : s.mem.wf = true) (w : Word) :
    s.push16 w = { s with sp := s.sp - 2#8, mem := (s.push16 w).mem } ∧
    ((s.push16 w).read8 (stackAddr s.sp)).toNat = w.toNat / 256 ∧
    ((s.push16 w).read8 (stackAddr (s.sp - 1#8))).toNat = w.toNat % 256 ∧
    BytesKept [stackAddr s.sp, stackAddr (s.sp - 1#8)] s (s.push16 w) ∧ (s.push16 w).pulled16 = w ∧
    (s.push16 w).afterPull16.sp = s.sp := by
  have htwo : s.sp - 2#8 = s.sp - 1#8 - 1#8 := by bv_omega
  refine ⟨?_, ?_, ?_, (push16_writesAt s w).bytesKept hs, State.pulled16_push16 hs w, ?_⟩
  · rw [htwo]
    exact s.push16_eq w
  · rw [State.read8_push16_high hs, toNat_hiByte]
  · rw [State.read8_push16_low hs, toNat_loByte]
  · rw [State.afterPull16_sp, State.push16_sp, BitVec.sub_add_cancel, BitVec.sub_add_cancel]

theorem pull16_lowByteFirst (s : State) :
    s.pulled16 = mkWord (s.read8 (stackAddr (s.sp + 2#8))) (s.read8 (stackAddr (s.sp + 1#8))) ∧
    s.afterPull16 = { s with sp := s.sp + 2#8 } := by
  have htwo : s.sp + 2#8 = s.sp + 1#8 + 1#8 := by bv_omega
  rw [htwo]
  exact ⟨s.pulled16_eq, rfl⟩

/-- Settles O7: a clause each for a byte pushed, a byte pulled, a word pushed and a word pulled. -/
theorem stackPushAndPull : Obligations.StackPushAndPull :=
  fun s b w hs => ⟨push_at_stackAddr_undone_by_pull hs b, ⟨rfl, s.afterPull_eq⟩,
    push16_highByteFirst_undone_by_pull16 hs w, pull16_lowByteFirst s⟩

/-- Settles O23: an instruction writes one byte at each of its stored addresses, which keeps every other byte, and is no
write at all where there are none. -/
theorem memoryChangesOnlyAtStoredAddresses : Obligations.MemoryChangesOnlyAtStoredAddresses := by
  intro i s t hs h
  obtain ⟨u, hu, hw⟩ := exec_writes i s
  cases h.symm.trans hu
  refine ⟨hw.bytesKept hs, fun hnil => ?_⟩
  rw [hnil] at hw
  exact writesAt_nil_iff.1 hw

end Sys2Proof.Proofs
end

section
/-! SUPPORT. The opcode table against the encoder: which instruction each table cell stands for (30_encoding.md R105 to R111), what
the decoder does with such a cell, and where the operand of a fetched instruction lies. -/

namespace Sys2Proof

open Sys2Proof.Machine

/-! ## The table cell of an instruction -/

/-- The cell builds `i` from some operand bytes, and whatever operand bytes it is given, the encoding of what it builds is `i`'s
opcode byte followed by them. -/
def Template.StandsFor : Template → Instr → Prop
  | .unimplemented, _ => False
  | .implied j, i => j = i ∧ encode j = [i.opcode]
  | .byte mk, i => (∃ b, mk b = i) ∧ ∀ b, encode (mk b) = [i.opcode, b]
  | .word mk, i => (∃ w, mk w = i) ∧ ∀ w, encode (mk w) = [i.opcode, loByte w, hiByte w]

/-- The opcode map of R111 agrees with the `Encoding` lines of the instruction rules.  (The map computes at a literal byte, so the
opcode of an instruction with operand bytes is unfolded first.) -/
theorem templateAt_opcode_standsFor (i : Instr) : (templateAt i.opcode).StandsFor i := by
  cases i with
  | brk | tax | tay | txa | tya | tsx | txs | inx | iny | dex | dey | aslAcc | lsrAcc | rolAcc | rorAcc | rts | pha | pla
  | php | plp | clc | sec | cli | sei | cld | sed | clv | nop | rti => exact ⟨rfl, rfl⟩
  | ldaAbs w | ldaAbsx w | ldaAbsy w | ldxAbs w | ldxAbsy w | ldyAbs w | ldyAbsx w | staAbs w | staAbsx w | staAbsy w
  | stxAbs w | styAbs w | incAbs w | incAbsx w | decAbs w | decAbsx w | adcAbs w | adcAbsx w | adcAbsy w | sbcAbs w
  | sbcAbsx w | sbcAbsy w | andAbs w | andAbsx w | andAbsy w | oraAbs w | oraAbsx w | oraAbsy w | eorAbs w | eorAbsx w
  | eorAbsy w | cmpAbs w | cmpAbsx w | cmpAbsy w | cpxAbs w | cpyAbs w | bitAbs w | aslAbs w | aslAbsx w | lsrAbs w
  | lsrAbsx w | rolAbs w | rolAbsx w | rorAbs w | rorAbsx w | jmpAbs w | jmpInd w | jsr w =>
    dsimp only [Instr.opcode]
    exact ⟨⟨w, rfl⟩, fun _ => rfl⟩
  | _ b =>
    dsimp only [Instr.opcode]
    exact ⟨⟨b, rfl⟩, fun _ => rfl⟩

theorem Template.sample_eq_none_iff {t : Template} : t.sample = none ↔ t = .unimplemented := by
  cases t <;> simp [Template.sample]

/-- No instruction stands in the map under a byte that is not its opcode. -/
theorem opcode_sample_templateAt : ∀ opcode : Byte, ∀ i ∈ (templateAt opcode).sample, i.opcode = opcode := by
  decide

/-- Every cell of the map is empty or stands for an instruction with the cell's opcode byte. -/
theorem templateAt_cases (opcode : Byte) :
    templateAt opcode = .unimplemented ∨ ∃ i, i.opcode = opcode ∧ (templateAt opcode).StandsFor i := by
  cases h : (templateAt opcode).sample with
  | none => exact .inl (Template.sample_eq_none_iff.1 h)
  | some i =>
    have hi := opcode_sample_templateAt opcode i h
    have hcell := templateAt_opcode_standsFor i
    rw [hi] at hcell
    exact .inr ⟨i, hi, hcell⟩

/-- The bytes of the map's empty cells, in rising order. -/
def emptyOpcodes : List Byte :=
  ((List.range 256).map (BitVec.ofNat 8)).filter fun opcode => (templateAt opcode).sample.isNone

theorem mem_emptyOpcodes_iff {opcode : Byte} : opcode ∈ emptyOpcodes ↔ templateAt opcode = .unimplemented := by
  have hlisted : opcode ∈ (List.range 256).map (BitVec.ofNat 8) :=
    List.mem_map.2 ⟨opcode.toNat, List.mem_range.2 opcode.isLt, by simp⟩
  rw [emptyOpcodes, List.mem_filter, Option.isNone_iff_eq_none, Template.sample_eq_none_iff, and_iff_right hlisted]

/-! ## The table under a profile -/

theorem lookup_full (opcode : Byte) : lookup .full opcode = templateAt opcode := rfl

/-- The table of a profile is the map with cells left out. -/
theorem lookup_cases (pr : Profile) (opcode : Byte) :
    lookup pr opcode = templateAt opcode ∨ lookup pr opcode = .unimplemented := by
  cases pr with
  | full => exact .inl rfl
  | subset => exact ite_eq_or_eq _ _ _

/-- An instruction of the demonstrated subset has one of the eleven bytes of R109. -/
theorem Instr.opcode_mem_subsetOpcodes {i : Instr} (h : i.mnemonic.inSubset = true) : i.opcode ∈ subsetOpcodes := by
  rcases Instr.inSubset_cases h with rfl | hlda | rfl | rfl
  · decide
  · cases i <;> cases hlda <;> dsimp only [Instr.opcode] <;> decide
  · decide
  · decide

theorem lookup_opcode_of_wf {pr : Profile} {i : Instr} (h : i.wf pr = true) : lookup pr i.opcode = templateAt i.opcode := by
  cases pr with
  | full => rfl
  | subset => exact if_pos (Instr.opcode_mem_subsetOpcodes h)

/-- The bytes without a descriptor under SUBSET are all but the eleven of R109. -/
theorem lookup_subset_eq_unimplemented_iff {opcode : Byte} :
    lookup .subset opcode = .unimplemented ↔ opcode ∉ subsetOpcodes := by
  have hdefined : ∀ b ∈ subsetOpcodes, (templateAt b).sample.isSome = true := by decide
  constructor
  · intro h hb
    rw [lookup, if_pos hb] at h
    have hsome := hdefined opcode hb
    rw [h] at hsome
    cases hsome
  · exact fun hb => if_neg hb

/-! ## What the decoder does with a cell -/

theorem decode_encode_of_standsFor {pr : Profile} {i : Instr} (h : (lookup pr i.opcode).StandsFor i) (rest : List Byte) :
    decode pr (encode i ++ rest) = .ok (i, rest) := by
  cases ht : lookup pr i.opcode with rw [ht] at h
  | unimplemented => exact h.elim
  | implied j =>
    obtain ⟨rfl, he⟩ := h
    rw [he, List.singleton_append, decode, ht]
  | byte mk =>
    obtain ⟨⟨b, rfl⟩, he⟩ := h
    rw [he, List.cons_append, decode, ht]
    rfl
  | word mk =>
    obtain ⟨⟨w, rfl⟩, he⟩ := h
    rw [he, List.cons_append, decode, ht]
    exact congrArg (fun v => Except.ok (mk v, rest)) (mkWord_hiByte_loByte w)

theorem encode_of_decode_of_standsFor {pr : Profile} {opcode : Byte} {tail rest : List Byte} {i j : Instr}
    (hcell : (lookup pr opcode).StandsFor j) (hj : j.opcode = opcode)
    (h : decode pr (opcode :: tail) = .ok (i, rest)) : encode i ++ rest = opcode :: tail := by
  rw [decode] at h
  cases ht : lookup pr opcode with rw [ht] at h hcell
  | unimplemented => cases h
  | implied k =>
    cases h
    rw [hcell.2, hj, List.singleton_append]
  | byte mk =>
    match tail, h with
    | b :: _, h =>
      cases h
      rw [hcell.2, hj]
      rfl
  | word mk =>
    match tail, h with
    | lo :: hi :: _, h =>
      cases h
      rw [hcell.2, hj, loByte_mkWord, hiByte_mkWord]
      rfl

/-- Whatever decodes is the encoding of the instruction, followed by the rest (30_encoding.md R92). -/
theorem encode_of_decode {pr : Profile} {bytes rest : List Byte} {i : Instr} (h : decode pr bytes = .ok (i, rest)) :
    encode i ++ rest = bytes := by
  cases bytes with
  | nil => cases h
  | cons opcode tail =>
    -- a cell without a descriptor decodes to nothing
    have hdefined : lookup pr opcode ≠ .unimplemented := by
      intro hu
      rw [decode, hu] at h
      cases h
    have hmap := (lookup_cases pr opcode).resolve_right hdefined
    rw [hmap] at hdefined
    obtain ⟨j, hj, hcell⟩ := (templateAt_cases opcode).resolve_left hdefined
    rw [← hmap] at hcell
    exact encode_of_decode_of_standsFor hcell hj h

theorem wf_of_decode {pr : Profile} {bytes rest : List Byte} {i : Instr} (h : decode pr bytes = .ok (i, rest)) :
    i.wf pr = true := by
  cases pr with
  | full => rfl
  | subset => exact decode_subset_inSubset h

theorem decode_three_unimplemented_iff {pr : Profile} {b lo hi : Byte} :
    decode pr [b, lo, hi] = .error (.unimplementedOpcode b) ↔ lookup pr b = .unimplemented :=
  ⟨fun h => (decode_three_error h).1, decode_three_unimplemented⟩

/-! ## The length of an encoding -/

theorem Operand.length_bytes (o : Operand) : o.bytes.length = o.mode.operandLen := by cases o <;> rfl

theorem length_encode (i : Instr) : (encode i).length = 1 + i.mode.operandLen := by
  rw [encode, List.length_cons, Operand.length_bytes, Nat.add_comm]
  rfl

/-! ## The operand of a fetched instruction -/

namespace Machine

/-- The operand bytes of a fetched instruction lie at `p` and after it (30_encoding.md R91). -/
theorem operand_bytes_of_fetch {s : State} {i : Instr} {rest : List Byte}
    (h : decode s.cfg.profile s.fetchBytes = .ok (i, rest)) :
    i.operand.bytes ++ rest = [s.read8 (s.pc + 1#16), s.read8 (s.pc + 1#16 + 1#16)] := by
  have hnext : s.pc + 2#16 = s.pc + 1#16 + 1#16 := by bv_omega
  rw [← hnext]
  exact (List.cons.inj (encode_of_decode h)).2

/-- A 16-bit operand whose bytes lie at `p` and after it is the word there (20_memory.md R64). -/
theorem eq_read16_of_bytes {s : State} {p w : Word} {rest : List Byte}
    (h : [loByte w, hiByte w] ++ rest = [s.read8 p, s.read8 (p + 1#16)]) : w = s.read16 p := by
  obtain ⟨hlo, htail⟩ := List.cons.inj h
  obtain ⟨hhi, -⟩ := List.cons.inj htail
  rw [State.read16, ← hlo, ← hhi, mkWord_hiByte_loByte]

/-- The operand value is the byte at the address in every mode but IMM (30_encoding.md R103). -/
theorem operandValue_eq_read8 {o : Operand} (h : o.mode ≠ .imm) (ea : Word) (s : State) :
    operandValue o ea s = s.read8 ea := by
  cases o with
  | imm => exact absurd rfl h
  | _ => rfl

theorem toNat_zext16_le (b : Byte) : (zext16 b).toNat ≤ 0xFF := by
  rw [zext16, BitVec.toNat_setWidth]
  omega

/-- The engine turns the resolver's error into the fault of 60_exceptions.md R302. -/
theorem runResolved_error {o : Operand} {s : State} {m : Mode} (h : resolve o s = .error m)
    (handler : Word → State → Flow) :
    runResolved o handler s =
      .next (s.raiseFault (.unsupportedAddressingMode m) (s.read8 (s.pc - 1#16)) (s.pc - 1#16)) := by
  rw [runResolved, h]

end Machine

end Sys2Proof
end

section
/-! CLAIMS. The statements of 30_encoding.md: the two round trips, the bytes of each profile, the resolver. -/

namespace Sys2Proof.Proofs

open Sys2Proof.Machine

/-- Settles O1: the cell at the instruction's opcode byte is in the table of every profile that has the instruction, and
stands for it. -/
theorem decodeOfEncodeIsTheInstruction : Obligations.DecodeOfEncodeIsTheInstruction := by
  intro pr i rest hwf
  have hcell := templateAt_opcode_standsFor i
  rw [← lookup_opcode_of_wf hwf] at hcell
  exact decode_encode_of_standsFor hcell rest

/-- Settles O2: the cell that was looked up stands for what it decoded to, and an encoding has the length of its mode. -/
theorem encodeOfDecodeIsTheBytes : Obligations.EncodeOfDecodeIsTheBytes := by
  intro pr bytes rest i h
  have hbytes := encode_of_decode h
  refine ⟨wf_of_decode h, hbytes, ?_⟩
  rw [← hbytes, List.length_append, length_encode]

/-- Settles O3: the 105 bytes are those of the map's empty cells; a SUBSET byte decodes alike under FULL by the two round trips,
since FULL has every instruction. -/
theorem definedBytesOfEachProfile : Obligations.DefinedBytesOfEachProfile := by
  intro b lo hi
  refine ⟨?_, ?_, ?_⟩
  · rw [decode_three_unimplemented_iff, lookup_full, ← mem_emptyOpcodes_iff]
    refine iff_of_eq (congrArg (b ∈ ·) ?_)
    decide
  · rw [decode_three_unimplemented_iff]
    exact lookup_subset_eq_unimplemented_iff
  · rintro ⟨i, rest⟩ h
    rw [← encode_of_decode h]
    exact decodeOfEncodeIsTheInstruction .full i rest rfl

/-! ## The resolver -/

/-- Settles O5: the operand of a fetched instruction is the byte or the word at `p`, and with it each mode's address is the one
of R96. -/
theorem resolverFollowsTheRules : Obligations.ResolverFollowsTheRules := by
  refine ⟨?_, ?_, ?_⟩
  · intro s i rest hd
    have hbytes := operand_bytes_of_fetch hd
    rw [Instr.mode]
    generalize i.operand = o at hbytes ⊢
    refine ⟨?_, ?_⟩
    · cases o with
      | imp | acc => rfl
      | imm b =>
        cases (List.cons.inj hbytes).1
        exact ⟨rfl, rfl⟩
      | zp b | zpx b | zpy b | indx b | indy b | rel b =>
        cases (List.cons.inj hbytes).1
        rfl
      | abs w | absx w | absy w | ind w =>
        cases eq_read16_of_bytes hbytes
        rfl
    · intro hmode ea
      have himm : o.mode ≠ .imm := by
        intro h
        rw [h] at hmode
        exact absurd hmode (by decide)
      exact operandValue_eq_read8 himm ea s.afterFetch
  · rintro zp8 s ea (h | h) <;> cases h <;> exact toNat_zext16_le _
  · exact fun handler _ => runResolved_error rfl handler

/-! ## Sample words -/

theorem decodeTableWord_of_encode {nbits w : Nat} {i : Instr} (rest : List Byte)
    (h : tableBytes nbits w = encode i ++ rest) : decodeTableWord nbits w = some i := by
  rw [decodeTableWord, h, decodeOfEncodeIsTheInstruction .full i rest rfl]

/-- Settles O4: eleven words are encodings followed by zeros; the twelfth has no descriptor. -/
theorem sampleWordsDecode : Obligations.SampleWordsDecode := by
  refine ⟨?_, ?_, ?_, ?_, ?_, ?_, ?_, ?_, ?_, ?_, ?_, ?_⟩
  · exact decodeTableWord_of_encode [0#8, 0#8] rfl
  · exact decodeTableWord_of_encode [0#8] rfl
  · exact decodeTableWord_of_encode [] rfl
  · exact decodeTableWord_of_encode [0#8] rfl
  · exact decodeTableWord_of_encode [0#8, 0#8] rfl
  · exact decodeTableWord_of_encode [] rfl
  · exact decodeTableWord_of_encode [0#8] rfl
  · exact decodeTableWord_of_encode [0#8, 0#8] rfl
  · exact decodeTableWord_of_encode [] rfl
  · exact decodeTableWord_of_encode [0#8] rfl
  · exact decodeTableWord_of_encode [0#8, 0#8] rfl
  · rw [decodeTableWord, tableBytes, decode_three_unimplemented rfl]

end Sys2Proof.Proofs
end

section
/-! SUPPORT. The halt opcode and the bytes without a descriptor, for the decoder and the engine (40_execution_engine.md R133, R135,
R140), and the opcode bytes of a mnemonic with one row. -/

namespace Sys2Proof

open Sys2Proof.Safety

/-- A mnemonic of one instruction, which carries no operand bytes, has that instruction's mode and opcode byte alone. -/
theorem hasEncodings_of_unique {mn : Mnemonic} {i : Instr} (h : ∀ j : Instr, j.mnemonic = mn ↔ j = i) :
    HasEncodings mn [(i.mode, i.opcode)] := by
  intro m b
  rw [List.mem_singleton, Prod.mk.injEq]
  constructor
  · rintro ⟨rfl, rfl⟩
    exact ⟨i, (h i).2 rfl, rfl, rfl⟩
  · rintro ⟨j, hj, rfl, rfl⟩
    cases (h j).1 hj
    exact ⟨rfl, rfl⟩

theorem Instr.mnemonic_eq_brk_iff (i : Instr) : i.mnemonic = .brk ↔ i = .brk := by
  constructor
  · intro h
    cases i <;> cases h
    rfl
  · rintro rfl
    rfl

theorem decode_haltOpcode (pr : Profile) (rest : List Byte) : decode pr (0x00#8 :: rest) = .ok (.brk, rest) := by
  have hlookup : lookup pr 0x00#8 = .implied .brk := by cases pr <;> rfl
  rw [decode, hlookup]

theorem eq_brk_iff_of_decode {pr : Profile} {opcode : Byte} {tail rest : List Byte} {i : Instr}
    (h : decode pr (opcode :: tail) = .ok (i, rest)) : i = .brk ↔ opcode = 0x00#8 := by
  constructor
  · rintro rfl
    exact (List.cons.inj (encode_of_decode h)).1.symm
  · rintro rfl
    rw [decode_haltOpcode] at h
    cases h
    rfl

theorem descriptor_eq_none_iff {pr : Profile} {opcode : Byte} :
    descriptor pr opcode = none ↔ lookup pr opcode = .unimplemented := by
  rw [descriptor, Option.map_eq_none_iff, Template.sample_eq_none_iff]

namespace Machine

variable {s t : State}

/-- A fetch fails to decode exactly on an opcode byte without a descriptor (40_execution_engine.md R133). -/
theorem descriptor_eq_none_iff_decode_error :
    descriptor s.cfg.profile (s.read8 s.pc) = none ↔ ∃ e, decode s.cfg.profile s.fetchBytes = .error e := by
  rw [descriptor_eq_none_iff]
  constructor
  · exact fun h => ⟨_, decode_three_unimplemented h⟩
  · rintro ⟨e, he⟩
    exact (decode_three_error he).1

theorem exec_brk (s : State) : exec .brk s = .next s.halt := by
  rw [exec, execBrk, runUnresolved_eq]
  exact congrArg Host.Outcome.next (State.ext_fields rfl rfl rfl rfl rfl (by simp) rfl rfl rfl rfl rfl rfl rfl)

/-- Of all instructions BRK alone changes RUN (40_execution_engine.md R135). -/
theorem run_of_exec {i : Instr} (h : exec i s = .next t) : t.run = if i = .brk then .halted else s.run := by
  rw [(exec_changesOnly h).run]
  exact if_congr decide_eq_true_iff rfl rfl

end Machine

end Sys2Proof
end

section
/-! CLAIMS. The statements of 40_execution_engine.md: what a step runs, where it stops, and BRK. -/

namespace Sys2Proof.Proofs

open Sys2Proof.Machine Sys2Proof.Safety

/-- Settles O16, along the four things a step can do: the stop halts, an interrupt entry keeps Running, a decoded instruction
halts exactly if it is BRK and never faults, and a byte that does not decode faults. -/
theorem stoppingConditionsAreExact : Obligations.StoppingConditionsAreExact := by
  intro s t h
  obtain ⟨hrun, hcases⟩ := step_cases h
  refine ⟨hrun, ?_⟩
  rw [descriptor_eq_none_iff_decode_error]
  obtain ⟨hstop, rfl⟩ | ⟨hstop, k, hk, rfl⟩ | ⟨hstop, hk, i, rest, hd, hexec⟩ | ⟨hstop, hk, e, hd, rfl⟩ := hcases
  · simp [hstop]
  · simp [hstop, hk, hrun]
  · have hrun' : t.run = if i = .brk then .halted else .running := by
      rw [run_of_exec hexec, State.afterFetch_run, hrun]
    have hbrk : i = .brk ↔ s.read8 s.pc = 0x00#8 := eq_brk_iff_of_decode hd
    rw [hrun', ← hbrk]
    by_cases hi : i = .brk <;> simp [hstop, hk, hd, hi]
  · have hne : s.read8 s.pc ≠ 0x00#8 := by
      intro h0
      rw [State.fetchBytes, h0, decode_haltOpcode] at hd
      cases hd
    simp [hstop, hk, hd, hne]

/-- Settles O8: no earlier branch of a step applies, and the state after the fetch is `s` with PC advanced by one. -/
theorem stepRunsTheDecodedInstruction : Obligations.StepRunsTheDecodedInstruction := by
  intro s i rest hready hd
  rw [step_of_ready hready, runInstruction_of_decode hd]
  rfl

/-- Settles O10: the decoder fails on the byte, and the fault is raised in the state after the fetch. -/
theorem unimplementedOpcodeFaultsPrecisely : Obligations.UnimplementedOpcodeFaultsPrecisely := by
  intro s hready hnone
  obtain ⟨e, he⟩ := descriptor_eq_none_iff_decode_error.1 hnone
  rw [step_of_ready hready, runInstruction_of_error he, State.raiseFault_eq]
  rfl

/-- Settles O14: a step looks at RUN before any request or interrupt input. -/
theorem haltedAndFaultedHaveNoStep : Obligations.HaltedAndFaultedHaveNoStep :=
  fun _ => ⟨step_of_halted, step_of_faulted, rfl⟩

/-- Settles O53: BRK is the one instruction of its mnemonic, and its handler is the halt. -/
theorem brkOnlyHalts : Obligations.BrkOnlyHalts :=
  ⟨hasEncodings_of_unique Instr.mnemonic_eq_brk_iff, decode_haltOpcode, exec_brk⟩

end Sys2Proof.Proofs
end

section
/-! SUPPORT. The opcode bytes of every mnemonic, read off the opcode map (30_encoding.md R111), and Z and N after `setZN`. -/

namespace Sys2Proof

open Sys2Proof.Safety

/-- The map's cell under an instruction's opcode byte is a row of that instruction's mnemonic and mode. -/
theorem sample_templateAt_opcode (i : Instr) :
    ∃ j ∈ (templateAt i.opcode).sample, j.mnemonic = i.mnemonic ∧ j.mode = i.mode := by
  cases i <;> dsimp only [Instr.opcode] <;> exact ⟨_, rfl, rfl, rfl⟩

/-- The rows of the opcode map in rising order of their bytes, each with sample operand bytes. -/
def mapRows : List Instr := ((List.range 256).map (BitVec.ofNat 8)).filterMap fun opcode => (templateAt opcode).sample

theorem mem_mapRows_iff {j : Instr} : j ∈ mapRows ↔ j ∈ (templateAt j.opcode).sample := by
  rw [mapRows, List.mem_filterMap]
  constructor
  · rintro ⟨opcode, -, hj⟩
    rwa [opcode_sample_templateAt opcode j hj]
  · exact fun hj => ⟨j.opcode, List.mem_map.2 ⟨j.opcode.toNat, List.mem_range.2 j.opcode.isLt, by simp⟩, hj⟩

/-- The modes and opcode bytes of a mnemonic in the opcode map, in rising order of the bytes. -/
def encodingsInMap (mn : Mnemonic) : List (Mode × Byte) :=
  (mapRows.filter fun j => j.mnemonic = mn).map fun j => (j.mode, j.opcode)

/-- The encodings of a mnemonic are those of its rows in the map, in whatever order they are listed. -/
theorem hasEncodings_of_perm {mn : Mnemonic} {listed : List (Mode × Byte)} (h : (encodingsInMap mn).Perm listed) :
    HasEncodings mn listed := by
  intro m b
  simp only [← h.mem_iff, encodingsInMap, List.mem_map, List.mem_filter, decide_eq_true_eq, Prod.mk.injEq]
  constructor
  · rintro ⟨j, ⟨-, hmn⟩, hm, hb⟩
    exact ⟨j, hmn, hm, hb⟩
  · rintro ⟨i, rfl, rfl, rfl⟩
    obtain ⟨j, hj, hmn, hm⟩ := sample_templateAt_opcode i
    have hop : j.opcode = i.opcode := opcode_sample_templateAt _ j hj
    exact ⟨j, ⟨mem_mapRows_iff.2 (hop ▸ hj), hmn⟩, hm, hop⟩

/-- `setZN(v)` makes Z and N those of `v` (10_state.md R40). -/
theorem Machine.zNof_putZN (v p : Byte) : ZNof v (Machine.putZN v p) :=
  ⟨Machine.getLsbD_putZN v p 1, Machine.getLsbD_putZN v p 7⟩

end Sys2Proof
end

section
/-! CLAIMS. The statements of 41_load_store.md: the loads and the stores. -/

namespace Sys2Proof.Proofs

open Sys2Proof.Machine Sys2Proof.Safety

/-- Settles O27: LDA is the shared load into A, and the map has eight rows of it. -/
theorem ldaLoadsAccumulator : Obligations.LdaLoadsAccumulator := by
  refine ⟨hasEncodings_of_perm (by decide), fun i s hi => ?_⟩
  obtain ⟨hexec, ea, hea⟩ := exec_lda hi s
  exact ⟨ea, _, hea, hexec.trans (load_eq hea _), rfl, zNof_putZN _ _, bitsKept_putZN _ _⟩

/-- Settles O28: LDX and LDY are the shared load into X and into Y. -/
theorem ldxAndLdyLoadIndexRegisters : Obligations.LdxAndLdyLoadIndexRegisters := by
  refine ⟨hasEncodings_of_perm (by decide), hasEncodings_of_perm (by decide), fun i s hi => ?_⟩
  rcases hi with hx | hy
  · obtain ⟨hexec, ea, hea⟩ := exec_ldx hx s
    exact ⟨ea, _, hea, hexec.trans (load_eq hea _), fun _ => rfl, fun hy => (nomatch hx.symm.trans hy),
      zNof_putZN _ _, bitsKept_putZN _ _⟩
  · obtain ⟨hexec, ea, hea⟩ := exec_ldy hy s
    exact ⟨ea, _, hea, hexec.trans (load_eq hea _), fun hx => (nomatch hy.symm.trans hx), fun _ => rfl,
      zNof_putZN _ _, bitsKept_putZN _ _⟩

/-- STA, STX and STY are the shared store of A, of X and of Y. -/
theorem exec_eq_store {i : Instr} {s : State} {value : Byte}
    (h : i.mnemonic = .sta ∧ value = s.a ∨ i.mnemonic = .stx ∧ value = s.x ∨ i.mnemonic = .sty ∧ value = s.y) :
    ∃ register : State → Byte, value = register s ∧
      exec i s = store register i.operand s ∧ ∃ ea, resolve i.operand s = .ok ea := by
  rcases h with ⟨hi, hv⟩ | ⟨hi, hv⟩ | ⟨hi, hv⟩
  · exact ⟨State.a, hv, exec_sta hi s⟩
  · exact ⟨State.x, hv, exec_stx hi s⟩
  · exact ⟨State.y, hv, exec_sty hi s⟩

/-- Settles O29: a store is one byte write at the effective address, which a read there gives back. -/
theorem storesWriteOneByte : Obligations.StoresWriteOneByte := by
  refine ⟨hasEncodings_of_perm (by decide), hasEncodings_of_perm (by decide), hasEncodings_of_perm (by decide),
    fun i s value hs hi => ?_⟩
  obtain ⟨register, rfl, hexec, ea, hea⟩ := exec_eq_store hi
  have hread : (s.write8 ea (register s)).read8 ea = register s := by rw [State.read8_write8 hs, if_pos rfl]
  have hkept : BytesKept [ea] s (s.write8 ea (register s)) := (write8_writesAt s ea _).bytesKept hs
  exact ⟨ea, _, hea, hexec.trans (store_eq hea register), rfl, hread, hkept⟩

end Sys2Proof.Proofs
end

section
/-! SUPPORT. An instruction of mode IMP whose handler leaves PC alone, and the shared register result under it. -/

namespace Sys2Proof.Machine

open Sys2Proof.Safety

/-- An instruction without operand bytes answers its handler's own state, for PC already stands past it (40_execution_engine.md
R134, step 6). -/
theorem runUnresolved_next_eq {handler : State → State} {s : State} (hpc : (handler s).pc = s.pc) :
    runUnresolved (fun s => .next (handler s)) s = .next (handler s) := by
  rw [runUnresolved_eq, finish_next, BitVec.add_zero, ← hpc]

theorem registerResult_eq {put : State → Byte → State} {value : State → Byte} {s : State}
    (hpc : (put s (value s)).pc = s.pc) :
    registerResult put value s = .next ((put s (value s)).setZN (value s)) :=
  runUnresolved_next_eq (handler := fun s => (put s (value s)).setZN (value s)) hpc

/-- A register result puts its value, sets Z and N from it and changes nothing else. -/
theorem registerResult_setsZN {put : State → Byte → State} {value : State → Byte} {s : State}
    (hpc : (put s (value s)).pc = s.pc) (hp : (put s (value s)).p = s.p) :
    ∃ t, registerResult put value s = .next t ∧ t = { put s (value s) with p := t.p } ∧ ZNof (value s) t.p ∧
      BitsKept [1, 7] s.p t.p := by
  refine ⟨_, registerResult_eq hpc, rfl, zNof_putZN _ _, ?_⟩
  rw [State.setZN_p, hp]
  exact bitsKept_putZN _ _

end Sys2Proof.Machine
end

section
/-! CLAIMS. The statements of 42_transfer.md, and NOP. -/

namespace Sys2Proof.Proofs

open Sys2Proof.Machine Sys2Proof.Safety

/-- Settles O30: each of the five is the shared register result, from one register into another. -/
theorem transfersCopyAndSetZN : Obligations.TransfersCopyAndSetZN := by
  refine ⟨hasEncodings_of_perm (by decide), hasEncodings_of_perm (by decide), hasEncodings_of_perm (by decide),
    hasEncodings_of_perm (by decide), hasEncodings_of_perm (by decide), fun s => ⟨?tax, ?tay, ?txa, ?tya, ?tsx⟩⟩
  case tax => exact registerResult_setsZN (put := State.setX) (value := State.a) rfl rfl
  case tay => exact registerResult_setsZN (put := State.setY) (value := State.a) rfl rfl
  case txa => exact registerResult_setsZN (put := State.setA) (value := State.x) rfl rfl
  case tya => exact registerResult_setsZN (put := State.setA) (value := State.y) rfl rfl
  case tsx => exact registerResult_setsZN (put := State.setX) (value := State.sp) rfl rfl

/-- Settles O31: the handler of TXS writes SP alone, and that of NOP nothing. -/
theorem txsWritesNoFlagAndNopNothing : Obligations.TxsWritesNoFlagAndNopNothing := by
  refine ⟨hasEncodings_of_perm (by decide), hasEncodings_of_perm (by decide), fun s => ⟨?txs, ?nop⟩⟩
  case txs => exact runUnresolved_next_eq (handler := fun s => s.setSp s.x) rfl
  case nop => exact runUnresolved_next_eq (handler := id) rfl

end Sys2Proof.Proofs
end

section
/-! SUPPORT. One more and one less modulo 256, and what the shared read-modify-write answers (43_inc_dec.md). -/

namespace Sys2Proof.Machine

open Sys2Proof.Safety

theorem toNat_add_one (v : Byte) : (v + 1#8).toNat = (v.toNat + 1) % 256 := BitVec.toNat_add v 1#8

theorem toNat_sub_one (v : Byte) : (v - 1#8).toNat = (v.toNat + 255) % 256 := by
  rw [BitVec.toNat_sub, Nat.add_comm]
  rfl

/-- A read-modify-write changes the one byte at its address, sets Z and N from the byte it wrote and changes nothing else but
PC. -/
theorem changeMemory_setsZN {o : Operand} {s : State} {ea : Word} (hs : s.mem.wf = true) (hea : resolve o s = .ok ea)
    (change : Byte → Byte) :
    ∃ t, changeMemory change o s = .next t ∧
      t = { s with mem := t.mem, p := t.p, pc := s.pc + BitVec.ofNat 16 o.mode.operandLen } ∧
      t.read8 ea = change (s.read8 ea) ∧ BytesKept [ea] s t ∧ ZNof (t.read8 ea) t.p ∧ BitsKept [1, 7] s.p t.p := by
  have hread : (s.write8 ea (change (s.read8 ea))).read8 ea = change (s.read8 ea) := by
    rw [State.read8_write8 hs, if_pos rfl]
  have hkept : BytesKept [ea] s (s.write8 ea (change (s.read8 ea))) := (write8_writesAt s ea _).bytesKept hs
  have hzn : ZNof ((s.write8 ea (change (s.read8 ea))).read8 ea) (putZN (change (s.read8 ea)) s.p) := by
    rw [hread]
    exact zNof_putZN _ _
  exact ⟨_, changeMemory_eq hea change, rfl, hread, hkept, hzn, bitsKept_putZN _ _⟩

end Sys2Proof.Machine
end

section
/-! CLAIMS. The statements of 43_inc_dec.md: the increments and decrements of registers and of memory. -/

namespace Sys2Proof.Proofs

open Sys2Proof.Machine Sys2Proof.Safety

/-- Settles O32: each of the four is the shared register result, of its register one up or one down. -/
theorem registerIncrementsAndDecrements : Obligations.RegisterIncrementsAndDecrements := by
  refine ⟨hasEncodings_of_perm (by decide), hasEncodings_of_perm (by decide), hasEncodings_of_perm (by decide),
    hasEncodings_of_perm (by decide), fun s => ⟨?inx, ?iny, ?dex, ?dey⟩⟩
  case inx =>
    exact ⟨_, registerResult_eq (put := State.setX) (value := fun s => s.x + 1#8) rfl, rfl, toNat_add_one s.x,
      zNof_putZN _ _, bitsKept_putZN _ _⟩
  case iny =>
    exact ⟨_, registerResult_eq (put := State.setY) (value := fun s => s.y + 1#8) rfl, rfl, toNat_add_one s.y,
      zNof_putZN _ _, bitsKept_putZN _ _⟩
  case dex =>
    exact ⟨_, registerResult_eq (put := State.setX) (value := fun s => s.x - 1#8) rfl, rfl, toNat_sub_one s.x,
      zNof_putZN _ _, bitsKept_putZN _ _⟩
  case dey =>
    exact ⟨_, registerResult_eq (put := State.setY) (value := fun s => s.y - 1#8) rfl, rfl, toNat_sub_one s.y,
      zNof_putZN _ _, bitsKept_putZN _ _⟩

/-- INC and DEC are the shared read-modify-write, the one with one more and the other with one less. -/
theorem exec_eq_changeMemory {i : Instr} (h : i.mnemonic = .inc ∨ i.mnemonic = .dec) (s : State) :
    ∃ change : Byte → Byte, (i.mnemonic = .inc → ∀ v, (change v).toNat = (v.toNat + 1) % 256) ∧
      (i.mnemonic = .dec → ∀ v, (change v).toNat = (v.toNat + 255) % 256) ∧
      exec i s = changeMemory change i.operand s ∧ ∃ ea, resolve i.operand s = .ok ea := by
  rcases h with hinc | hdec
  · exact ⟨_, fun _ => toNat_add_one, fun hdec => (nomatch hinc.symm.trans hdec), exec_inc hinc s⟩
  · exact ⟨_, fun hinc => (nomatch hdec.symm.trans hinc), fun _ => toNat_sub_one, exec_dec hdec s⟩

/-- Settles O33: the byte written is one more or one less than the byte read, as the mnemonic is INC or DEC; the rest holds of
every read-modify-write. -/
theorem memoryIncrementsAndDecrements : Obligations.MemoryIncrementsAndDecrements := by
  refine ⟨hasEncodings_of_perm (by decide), hasEncodings_of_perm (by decide), fun i s hs hi => ?_⟩
  obtain ⟨change, hinc, hdec, hexec, ea, hea⟩ := exec_eq_changeMemory hi s
  obtain ⟨t, ht, hframe, hread, hkept, hzn, hbits⟩ := changeMemory_setsZN hs hea change
  refine ⟨ea, t, hea, hexec.trans ht, hframe, ?_, ?_, hkept, hzn, hbits⟩ <;> rw [hread]
  · exact fun h => hinc h _
  · exact fun h => hdec h _

end Sys2Proof.Proofs
end

section
/-! SUPPORT. The adder of 44_alu.md: what each of its results and flags is as a number, and the whole next state of each shared
operation of the ALU. -/

namespace Sys2Proof.Machine

open Sys2Proof.Safety

/-! ## Bits and nibbles of a byte as numbers -/

theorem getLsbD_seven (b : Byte) : b.getLsbD 7 = decide (128 ≤ b.toNat) :=
  (BitVec.msb_eq_getLsbD_last b).symm.trans (BitVec.msb_eq_decide b)

theorem toInt_of_byte (b : Byte) : b.toInt = if 128 ≤ b.toNat then (b.toNat : Int) - 256 else b.toNat := by
  rw [BitVec.toInt_eq_msb_cond, BitVec.msb_eq_decide]
  simp only [decide_eq_true_eq]
  rfl

theorem toNat_and_0x0F (b : Byte) : (b &&& 0x0F#8).toNat = b.toNat % 16 :=
  Nat.and_two_pow_sub_one_eq_mod b.toNat 4

theorem toNat_and_0xF0 : ∀ b : Byte, (b &&& 0xF0#8).toNat = b.toNat / 16 * 16 := by
  decide

theorem toNat_ofInt_byte (i : Int) : ((BitVec.ofInt 8 i).toNat : Int) = i % 256 := by
  rw [BitVec.toNat_ofInt]
  exact Int.toNat_of_nonneg (Int.emod_nonneg i (by decide))

/-- Bit 7 of an integer narrowed to a byte. -/
theorem getLsbD_seven_ofInt (i : Int) : (BitVec.ofInt 8 i).getLsbD 7 = decide (128 ≤ i % 256) := by
  rw [getLsbD_seven, ← toNat_ofInt_byte]
  exact decide_eq_decide.2 Nat.ofNat_le_cast.symm

/-! ## The flags of the adder in P -/

section Flags

variable (r : AluResult) (p : Byte)

theorem getLsbD_putNVZC_c : (putNVZC r p).getLsbD 0 = r.c := getLsbD_putNVZC r p 0

theorem getLsbD_putNVZC_z : (putNVZC r p).getLsbD 1 = r.z := getLsbD_putNVZC r p 1

theorem getLsbD_putNVZC_v : (putNVZC r p).getLsbD 6 = r.v := getLsbD_putNVZC r p 6

theorem getLsbD_putNVZC_n : (putNVZC r p).getLsbD 7 = r.n := getLsbD_putNVZC r p 7

end Flags

/-! ## Which computation is in force (44_alu.md R199) -/

section InForce

variable {cfg : Config} {p : Byte}

theorem decimalActive_eq_false (h : cfg.decimalMode = .ignored ∨ p.getLsbD 3 = false) : decimalActive cfg p = false := by
  rcases h with hcfg | hd
  · rw [decimalActive, hcfg]
    rfl
  · rw [decimalActive]
    exact (congrArg _ hd).trans (Bool.and_false _)

theorem decimalActive_eq_true (hcfg : cfg.decimalMode = .nmos) (hd : p.getLsbD 3 = true) : decimalActive cfg p = true := by
  rw [decimalActive, hcfg]
  exact hd

theorem adcResult_of_binary (h : cfg.decimalMode = .ignored ∨ p.getLsbD 3 = false) (a m : Byte) :
    adcResult cfg p a m = adcBinary a m (p.getLsbD 0) := by
  rw [adcResult, decimalActive_eq_false h]
  rfl

theorem adcResult_of_decimal (hcfg : cfg.decimalMode = .nmos) (hd : p.getLsbD 3 = true) (a m : Byte) :
    adcResult cfg p a m = adcDecimal a m (p.getLsbD 0) := by
  rw [adcResult, decimalActive_eq_true hcfg hd]
  rfl

theorem sbcResult_value_of_binary (h : cfg.decimalMode = .ignored ∨ p.getLsbD 3 = false) (a m : Byte) :
    (sbcResult cfg p a m).value = (sbcBinary a m (p.getLsbD 0)).value := by
  rw [sbcResult, decimalActive_eq_false h]
  rfl

theorem sbcResult_value_of_decimal (hcfg : cfg.decimalMode = .nmos) (hd : p.getLsbD 3 = true) (a m : Byte) :
    (sbcResult cfg p a m).value = sbcDecimalValue a m (p.getLsbD 0) := by
  rw [sbcResult, decimalActive_eq_true hcfg hd]
  rfl

/-- SBC writes the flags of the binary subtraction in either case (44_alu.md R203). -/
theorem putNVZC_sbcResult (cfg : Config) (p a m : Byte) :
    putNVZC (sbcResult cfg p a m) p = putNVZC (sbcBinary a m (p.getLsbD 0)) p := by
  rw [sbcResult]
  split_ifs <;> rfl

end InForce

/-! ## Binary addition and subtraction -/

/-- The result of a binary addition, modulo 256. -/
theorem toNat_adcBinary_value (a m : Byte) (carry : Bool) :
    (adcBinary a m carry).value.toNat = (a.toNat + m.toNat + carry.toNat) % 256 := BitVec.toNat_ofNat _ 8

/-- Z and N of a binary addition are those of its result. -/
theorem zNof_adcBinary (a m : Byte) (carry : Bool) (p : Byte) :
    ZNof (adcBinary a m carry).value (putNVZC (adcBinary a m carry) p) :=
  ⟨getLsbD_putNVZC_z _ p, getLsbD_putNVZC_n _ p⟩

/-- Subtraction is addition of the complement (44_alu.md R202). -/
theorem sbcBinary_eq_adcBinary (a m : Byte) (carry : Bool) : sbcBinary a m carry = adcBinary a (~~~m) carry := by
  rw [← BitVec.xor_allOnes]
  rfl

theorem toNat_not_byte (m : Byte) : (~~~m).toNat = 255 - m.toNat := BitVec.toNat_not

/-- The difference with borrow, `a - m - (1 - C)` (44_alu.md R202). -/
def borrowDifference (a m : Byte) (carry : Bool) : Int := a.toNat - m.toNat - (1 - carry.toNat)

/-- The sum of SBC's adder is the difference with borrow and 256. -/
theorem sum_not_eq_borrowDifference (a m : Byte) (carry : Bool) :
    ((a.toNat + (~~~m).toNat + carry.toNat : Nat) : Int) = borrowDifference a m carry + 256 := by
  have hm := m.isLt
  rw [toNat_not_byte, borrowDifference]
  omega

theorem sbcBinary_value (a m : Byte) (carry : Bool) :
    (sbcBinary a m carry).value = BitVec.ofInt 8 (borrowDifference a m carry) := by
  have hsum := sum_not_eq_borrowDifference a m carry
  have hvalue := toNat_adcBinary_value a (~~~m) carry
  have hofInt := toNat_ofInt_byte (borrowDifference a m carry)
  rw [← sbcBinary_eq_adcBinary] at hvalue
  apply BitVec.eq_of_toNat_eq
  omega

/-- C of a subtraction says that nothing was borrowed. -/
theorem sbcBinary_c (a m : Byte) (carry : Bool) :
    (sbcBinary a m carry).c = decide (0 ≤ borrowDifference a m carry) := by
  have hsum := sum_not_eq_borrowDifference a m carry
  rw [sbcBinary_eq_adcBinary]
  refine decide_eq_decide.2 ?_
  omega

/-- V of a subtraction, with the operand itself in place of its complement. -/
theorem sbcBinary_v (a m : Byte) (carry : Bool) :
    (sbcBinary a m carry).v = ((a ^^^ m) &&& (a ^^^ (sbcBinary a m carry).value)).getLsbD 7 := by
  have hv : (sbcBinary a m carry).v =
      ((a ^^^ (sbcBinary a m carry).value) &&& (~~~m ^^^ (sbcBinary a m carry).value)).getLsbD 7 := by
    rw [sbcBinary_eq_adcBinary]
    rfl
  rw [hv]
  simp only [BitVec.getLsbD_and, BitVec.getLsbD_xor, BitVec.getLsbD_not]
  cases a.getLsbD 7 <;> cases m.getLsbD 7 <;> cases (sbcBinary a m carry).value.getLsbD 7 <;> rfl

theorem zNof_sbcBinary (a m : Byte) (carry : Bool) (p : Byte) :
    ZNof (sbcBinary a m carry).value (putNVZC (sbcBinary a m carry) p) := by
  rw [sbcBinary_eq_adcBinary]
  exact zNof_adcBinary _ _ _ p

/-- The four flags of SBC are those of the difference with borrow. -/
theorem putNVZC_sbcBinary (a m : Byte) (carry : Bool) (p : Byte) :
    ZNof (BitVec.ofInt 8 (borrowDifference a m carry)) (putNVZC (sbcBinary a m carry) p) ∧
      (putNVZC (sbcBinary a m carry) p).getLsbD 0 = decide (0 ≤ borrowDifference a m carry) ∧
      (putNVZC (sbcBinary a m carry) p).getLsbD 6 =
        ((a ^^^ m) &&& (a ^^^ BitVec.ofInt 8 (borrowDifference a m carry))).getLsbD 7 := by
  rw [← sbcBinary_value, getLsbD_putNVZC_c, getLsbD_putNVZC_v]
  exact ⟨zNof_sbcBinary a m carry p, sbcBinary_c a m carry, sbcBinary_v a m carry⟩

/-- The V bit of R200: `A` and the operand have one sign, and the result has the other. -/
theorem getLsbD_seven_overflow (a m r : Byte) :
    ((a ^^^ r) &&& (m ^^^ r)).getLsbD 7 =
      decide (a.getLsbD 7 = m.getLsbD 7 ∧ a.getLsbD 7 ≠ r.getLsbD 7) := by
  rw [BitVec.getLsbD_and, BitVec.getLsbD_xor, BitVec.getLsbD_xor]
  cases a.getLsbD 7 <;> cases m.getLsbD 7 <;> cases r.getLsbD 7 <;> rfl

/-- V of a binary addition says that the signed sum is out of range (44_alu.md R199). -/
theorem adcBinary_v (a m : Byte) (carry : Bool) :
    (adcBinary a m carry).v =
      decide (a.toInt + m.toInt + carry.toNat < -128 ∨ 127 < a.toInt + m.toInt + carry.toNat) := by
  have hvalue := toNat_adcBinary_value a m carry
  have ha := a.isLt
  have hm := m.isLt
  have hcarry := carry.toNat_le
  refine (getLsbD_seven_overflow a m (adcBinary a m carry).value).trans (decide_eq_decide.2 ?_)
  simp only [getLsbD_seven, decide_eq_decide, ne_eq, hvalue, toInt_of_byte]
  -- by the signs of the operands: with two signs neither bound is crossed, with one sign only that side's can be
  by_cases ha7 : 128 ≤ a.toNat <;> by_cases hm7 : 128 ≤ m.toNat <;>
    simp only [ha7, hm7, if_true, if_false, true_iff, false_iff, not_true, true_and, false_and] <;>
    omega

theorem toInt_not_byte (m : Byte) : (~~~m).toInt = -m.toInt - 1 := by
  have hm := m.isLt
  rw [toInt_of_byte, toInt_of_byte, toNat_not_byte]
  split_ifs <;> omega

/-- V of a binary subtraction says that the signed difference is out of range. -/
theorem sbcBinary_v_eq_decide (a m : Byte) (carry : Bool) :
    (sbcBinary a m carry).v =
      decide (a.toInt - m.toInt - (1 - carry.toNat) < -128 ∨ 127 < a.toInt - m.toInt - (1 - carry.toNat)) := by
  rw [sbcBinary_eq_adcBinary, adcBinary_v, toInt_not_byte]
  refine decide_eq_decide.2 ?_
  omega

/-! ## Decimal addition and subtraction -/

/-- The low digit of a decimal addition with the carry out of it (44_alu.md R201). -/
def decimalLow (a m : Byte) (carry : Bool) : Nat :=
  let digits := a.toNat % 16 + m.toNat % 16 + carry.toNat
  if 10 ≤ digits then (digits + 6) % 16 + 16 else digits

/-- A decimal addition before it is narrowed to a byte (44_alu.md R201). -/
def decimalSum (a m : Byte) (carry : Bool) : Nat :=
  let sum := a.toNat / 16 * 16 + m.toNat / 16 * 16 + decimalLow a m carry
  if 0xA0 ≤ sum then sum + 0x60 else sum

/-- The signed addition that N and V of a decimal addition come from (44_alu.md R201). -/
def decimalSigned (a m : Byte) (carry : Bool) : Int :=
  (a &&& 0xF0#8).toInt + (m &&& 0xF0#8).toInt + decimalLow a m carry

theorem adcDecimal_eq (a m : Byte) (carry : Bool) :
    adcDecimal a m carry =
      { value := BitVec.ofNat 8 (decimalSum a m carry)
        n := (BitVec.ofInt 8 (decimalSigned a m carry)).getLsbD 7
        v := decide (decimalSigned a m carry < -128) || decide (decimalSigned a m carry > 127)
        z := decide ((a.toNat + m.toNat + carry.toNat) % 256 = 0)
        c := decide (0x100 ≤ decimalSum a m carry) } := by
  simp only [adcDecimal, toNat_and_0x0F, toNat_and_0xF0, decimalSigned, decimalSum, decimalLow]
  rfl

theorem toNat_adcDecimal_value (a m : Byte) (carry : Bool) :
    (adcDecimal a m carry).value.toNat = decimalSum a m carry % 256 := by
  rw [adcDecimal_eq]
  exact BitVec.toNat_ofNat _ 8

theorem adcDecimal_n (a m : Byte) (carry : Bool) :
    (adcDecimal a m carry).n = decide (128 ≤ decimalSigned a m carry % 256) := by
  rw [adcDecimal_eq]
  exact getLsbD_seven_ofInt _

theorem adcDecimal_v (a m : Byte) (carry : Bool) :
    (adcDecimal a m carry).v = decide (decimalSigned a m carry < -128 ∨ 127 < decimalSigned a m carry) := by
  rw [adcDecimal_eq]
  exact (Bool.decide_or _ _).symm

theorem adcDecimal_z (a m : Byte) (carry : Bool) :
    (adcDecimal a m carry).z = decide ((a.toNat + m.toNat + carry.toNat) % 256 = 0) := rfl

theorem adcDecimal_c (a m : Byte) (carry : Bool) :
    (adcDecimal a m carry).c = decide (0x100 ≤ decimalSum a m carry) := by
  rw [adcDecimal_eq]

/-- The low digit of a sum of decimal digits is their sum, with sixteen for ten. -/
theorem decimalLow_of_digits {a m : Byte} (ha : a.toNat % 16 < 10) (hm : m.toNat % 16 < 10) (carry : Bool) :
    ∃ digit ≤ 9, ∃ tens ≤ 1, decimalLow a m carry = 16 * tens + digit ∧
      a.toNat % 16 + m.toNat % 16 + carry.toNat = 10 * tens + digit := by
  have hcarry := carry.toNat_le
  rw [decimalLow]
  by_cases h : 10 ≤ a.toNat % 16 + m.toNat % 16 + carry.toNat
  · exact ⟨a.toNat % 16 + m.toNat % 16 + carry.toNat - 10, by omega, 1, le_rfl, by rw [if_pos h]; omega, by omega⟩
  · exact ⟨a.toNat % 16 + m.toNat % 16 + carry.toNat, by omega, 0, by omega, by rw [if_neg h]; omega, by omega⟩

/-- A decimal subtraction before it is narrowed to a byte (44_alu.md R203). -/
def decimalDifference (a m : Byte) (carry : Bool) : Int :=
  let digits : Int := (a.toNat % 16 : Nat) - (m.toNat % 16 : Nat) + (carry.toNat : Int) - 1
  let lo : Int := if digits < 0 then (digits - 6) % 16 - 16 else digits
  let total : Int := (a.toNat / 16 * 16 : Nat) - (m.toNat / 16 * 16 : Nat) + lo
  if total < 0 then total - 0x60 else total

theorem toNat_sbcDecimalValue (a m : Byte) (carry : Bool) :
    ((sbcDecimalValue a m carry).toNat : Int) = decimalDifference a m carry % 256 := by
  rw [sbcDecimalValue, toNat_ofInt_byte, toNat_and_0x0F, toNat_and_0x0F, toNat_and_0xF0, toNat_and_0xF0]
  rfl

/-! ## Comparison -/

theorem toNat_sub_byte (r m : Byte) : (r - m).toNat = (r.toNat + 256 - m.toNat) % 256 := by
  have hm := m.isLt
  rw [BitVec.toNat_sub]
  omega

/-- C, Z and N after `compare(r, m)` (44_alu.md R207). -/
theorem putCompare_flags (r m p : Byte) :
    (putCompare r m p).getLsbD 0 = decide (m.toNat ≤ r.toNat) ∧ (putCompare r m p).getLsbD 1 = decide (r = m) ∧
      (putCompare r m p).getLsbD 7 = decide (128 ≤ (r.toNat + 256 - m.toNat) % 256) := by
  refine ⟨getLsbD_putCompare r m p 0, (getLsbD_putCompare r m p 1).trans ?_, (getLsbD_putCompare r m p 7).trans ?_⟩
  · exact decide_eq_decide.2 sub_eq_zero
  · rw [← toNat_sub_byte]
    exact getLsbD_seven (r - m)

/-! ## The shared operations of the ALU -/

section SharedOperations

variable {o : Operand} {s : State} {ea : Word}

/-- ADC and SBC write A and P and change nothing else but PC. -/
theorem arithmetic_next (hea : resolve o s = .ok ea) (compute : Config → Byte → Byte → Byte → AluResult) :
    ∃ t, arithmetic compute o s = .next t ∧
      t = { s with a := t.a, p := t.p, pc := s.pc + BitVec.ofNat 16 o.mode.operandLen } ∧
      BitsKept [0, 1, 6, 7] s.p t.p ∧ t.a = (compute s.cfg s.p s.a (operandValue o ea s)).value ∧
      t.p = putNVZC (compute s.cfg s.p s.a (operandValue o ea s)) s.p :=
  ⟨_, arithmetic_eq hea compute, rfl, bitsKept_putNVZC _ _, rfl, rfl⟩

end SharedOperations

end Sys2Proof.Machine
end

section
/-! CLAIMS. The statements of 44_alu.md: arithmetic, logic, comparison and the bit test. -/

namespace Sys2Proof.Proofs

open Sys2Proof.Machine Sys2Proof.Safety

/-! ## Arithmetic -/

/-- Settles O34: outside decimal mode ADC is the shared arithmetic with the binary addition. -/
theorem adcBinaryAddition : Obligations.AdcBinaryAddition := by
  refine ⟨hasEncodings_of_perm (by decide), fun i s hi => ?_⟩
  obtain ⟨hexec, ea, hea⟩ := exec_adc hi s
  obtain ⟨t, ht, hframe, hkept, ha, hp⟩ := arithmetic_next hea adcResult
  refine ⟨ea, t, hea, hexec.trans ht, hframe, hkept, fun hbinary => ?_⟩
  rw [adcResult_of_binary hbinary] at ha hp
  rw [ha, hp]
  exact ⟨toNat_adcBinary_value _ _ _, zNof_adcBinary _ _ _ _, getLsbD_putNVZC_c _ _, getLsbD_putNVZC_v _ _⟩

/-- Settles O35: in decimal mode ADC is the shared arithmetic with the decimal addition. -/
theorem adcDecimalAddition : Obligations.AdcDecimalAddition := by
  intro i s hi hcfg hd
  obtain ⟨hexec, ea, hea⟩ := exec_adc hi s
  obtain ⟨t, ht, hframe, hkept, ha, hp⟩ := arithmetic_next hea adcResult
  refine ⟨ea, t, hea, hexec.trans ht, hframe, hkept, ?_⟩
  rw [adcResult_of_decimal hcfg hd] at ha hp
  rw [ha, hp, getLsbD_putNVZC_c, getLsbD_putNVZC_z, getLsbD_putNVZC_v, getLsbD_putNVZC_n]
  exact ⟨toNat_adcDecimal_value _ _ _, adcDecimal_c _ _ _, adcDecimal_z _ _ _, adcDecimal_v _ _ _, adcDecimal_n _ _ _⟩

/-- Settles O36: the low digits add to a digit and a carry into the high digits, and these to a digit and the carry out. -/
theorem adcDecimalAddsBcdNumbers : Obligations.AdcDecimalAddsBcdNumbers := by
  rintro a m carry ⟨halow, hahigh⟩ ⟨hmlow, hmhigh⟩
  obtain ⟨digit, hdigit, tens, htens, hlow, hsum⟩ := decimalLow_of_digits halow hmlow carry
  have hvalue := toNat_adcDecimal_value a m carry
  rw [ValidBcd, bcdValue, bcdValue, bcdValue, adcDecimal_c]
  rw [decimalSum, hlow] at hvalue ⊢
  by_cases h : 0xA0 ≤ a.toNat / 16 * 16 + m.toNat / 16 * 16 + (16 * tens + digit)
  · rw [if_pos h] at hvalue ⊢
    rw [decide_eq_true (by omega), Bool.toNat_true]
    omega
  · rw [if_neg h] at hvalue ⊢
    rw [decide_eq_false (by omega), Bool.toNat_false]
    omega

/-- Settles O37: SBC is the shared arithmetic, with the flags of the binary subtraction in every case. -/
theorem sbcBinarySubtraction : Obligations.SbcBinarySubtraction := by
  refine ⟨hasEncodings_of_perm (by decide), fun i s hi => ?_⟩
  obtain ⟨hexec, ea, hea⟩ := exec_sbc hi s
  obtain ⟨t, ht, hframe, hkept, ha, hp⟩ := arithmetic_next hea sbcResult
  refine ⟨ea, t, hea, hexec.trans ht, hframe, hkept, fun hbinary => ?_, ?_⟩
  · rw [ha, sbcResult_value_of_binary hbinary]
    exact sbcBinary_value _ _ _
  · rw [hp, putNVZC_sbcResult]
    exact putNVZC_sbcBinary _ _ _ _

/-- Settles O38: in decimal mode the accumulator alone is not that of the binary subtraction. -/
theorem sbcDecimalSubtraction : Obligations.SbcDecimalSubtraction := by
  intro i s hi hcfg hd
  obtain ⟨hexec, ea, hea⟩ := exec_sbc hi s
  obtain ⟨t, ht, hframe, hkept, ha, hp⟩ := arithmetic_next hea sbcResult
  refine ⟨ea, t, hea, hexec.trans ht, hframe, hkept, ?_, ?_⟩
  · rw [ha, sbcResult_value_of_decimal hcfg hd]
    exact toNat_sbcDecimalValue _ _ _
  · rw [hp, putNVZC_sbcResult]
    exact putNVZC_sbcBinary _ _ _ _

/-- Settles O39: subtraction is addition of the complement, so its V is that of a signed addition. -/
theorem overflowIsSignedRange : Obligations.OverflowIsSignedRange :=
  fun a m carry => ⟨adcBinary_v a m carry, sbcBinary_v_eq_decide a m carry⟩

/-! ## Logic, comparison and bit test -/

/-- AND, ORA and EOR are the shared logical operation, each combining the bits of its operands by its own function. -/
theorem exec_eq_logical {i : Instr} (h : i.mnemonic = .and ∨ i.mnemonic = .ora ∨ i.mnemonic = .eor) (s : State) :
    ∃ combine : Byte → Byte → Byte,
      (∀ a m k,
        (i.mnemonic = .and → (combine a m).getLsbD k = (a.getLsbD k && m.getLsbD k)) ∧
        (i.mnemonic = .ora → (combine a m).getLsbD k = (a.getLsbD k || m.getLsbD k)) ∧
        (i.mnemonic = .eor → (combine a m).getLsbD k = (a.getLsbD k ^^ m.getLsbD k))) ∧
      exec i s = logical combine i.operand s ∧ ∃ ea, resolve i.operand s = .ok ea := by
  rcases h with h | h | h
  · refine ⟨_, fun a m k => ⟨fun _ => BitVec.getLsbD_and, fun h' => ?_, fun h' => ?_⟩, exec_and h s⟩ <;>
      cases h.symm.trans h'
  · refine ⟨_, fun a m k => ⟨fun h' => ?_, fun _ => BitVec.getLsbD_or, fun h' => ?_⟩, exec_ora h s⟩ <;>
      cases h.symm.trans h'
  · refine ⟨_, fun a m k => ⟨fun h' => ?_, fun h' => ?_, fun _ => BitVec.getLsbD_xor⟩, exec_eor h s⟩ <;>
      cases h.symm.trans h'

/-- Settles O40: each of the three is the shared logical operation, and the map has eight rows of each. -/
theorem logicalOperationsOnAccumulator : Obligations.LogicalOperationsOnAccumulator := by
  refine ⟨hasEncodings_of_perm (by decide), hasEncodings_of_perm (by decide), hasEncodings_of_perm (by decide),
    fun i s hi => ?_⟩
  obtain ⟨combine, hbits, hexec, ea, hea⟩ := exec_eq_logical hi s
  exact ⟨ea, _, hea, hexec.trans (logical_eq hea combine), rfl, zNof_putZN _ _, bitsKept_putZN _ _, hbits _ _⟩

/-- CMP, CPX and CPY are the shared comparison of A, of X and of Y. -/
theorem exec_eq_compare {i : Instr} {s : State} {r : Byte}
    (h : i.mnemonic = .cmp ∧ r = s.a ∨ i.mnemonic = .cpx ∧ r = s.x ∨ i.mnemonic = .cpy ∧ r = s.y) :
    ∃ register : State → Byte, r = register s ∧
      exec i s = Machine.compare register i.operand s ∧ ∃ ea, resolve i.operand s = .ok ea := by
  rcases h with ⟨hi, hr⟩ | ⟨hi, hr⟩ | ⟨hi, hr⟩
  · exact ⟨State.a, hr, exec_cmp hi s⟩
  · exact ⟨State.x, hr, exec_cpx hi s⟩
  · exact ⟨State.y, hr, exec_cpy hi s⟩

/-- Settles O41: each of the three is the shared comparison, which writes P and PC alone. -/
theorem comparisonsSetOnlyFlags : Obligations.ComparisonsSetOnlyFlags := by
  refine ⟨hasEncodings_of_perm (by decide), hasEncodings_of_perm (by decide), hasEncodings_of_perm (by decide),
    fun i s r hi => ?_⟩
  obtain ⟨register, rfl, hexec, ea, hea⟩ := exec_eq_compare hi
  exact ⟨ea, _, hea, hexec.trans (compare_eq hea register), rfl, putCompare_flags _ _ _, bitsKept_putCompare _ _ _⟩

/-- Settles O42: BIT has no immediate mode, so its operand is the byte at the address. -/
theorem bitTestsMemoryAgainstAccumulator : Obligations.BitTestsMemoryAgainstAccumulator := by
  have hencodings : HasEncodings .bit [(.zp, 0x24#8), (.abs, 0x2C#8)] := hasEncodings_of_perm (by decide)
  refine ⟨hencodings, fun i s hi => ?_⟩
  obtain ⟨hexec, ea, hea⟩ := exec_bit hi s
  have hmode : i.operand.mode ≠ .imm := fun himm =>
    absurd ((hencodings .imm i.opcode).2 ⟨i, hi, himm, rfl⟩) (by simp)
  have hbit := bitTest_eq hea
  rw [operandValue_eq_read8 hmode] at hbit
  exact ⟨ea, _, hea, hexec.trans hbit, rfl, getLsbD_putBitTest _ _ _ 1, getLsbD_putBitTest _ _ _ 7,
    getLsbD_putBitTest _ _ _ 6, bitsKept_putBitTest _ _ _⟩

end Sys2Proof.Proofs
end

section
/-! SUPPORT. Each shift and rotate of 45_shift_rotate.md as the one-bit change of a byte and of P that its rule gives. -/

namespace Sys2Proof.Machine

open Sys2Proof.Safety

theorem zNof_putShift (r : ShiftResult) (p : Byte) : ZNof r.value (putShift r p) :=
  zNof_putZN r.value (putFlag .c r.out p)

theorem getLsbD_putShift_c (r : ShiftResult) (p : Byte) : (putShift r p).getLsbD 0 = r.out := getLsbD_putShift r p 0

/-- `compute` is the one-bit shift or rotate that the mnemonic names, of every byte under every status. -/
def ShiftsOnce (mn : Mnemonic) (compute : Byte → Bool → ShiftResult) : Prop :=
  ∀ v p, ShiftedOnce mn v p (compute v (getFlag .c p)).value (putShift (compute v (getFlag .c p)) p)

theorem aslResult_shiftsOnce : ShiftsOnce .asl aslResult := fun v _ =>
  ⟨zNof_putShift _ _, bitsKept_putShift _ _,
    fun _ => ⟨BitVec.toNat_ofNat (v.toNat * 2) 8, getLsbD_putShift_c _ _⟩, nofun, nofun, nofun⟩

theorem toNat_lsrResult_value (v : Byte) (carry : Bool) : (lsrResult v carry).value.toNat = v.toNat / 2 :=
  (BitVec.toNat_ofNat _ 8).trans (Nat.mod_eq_of_lt (by omega))

theorem lsrResult_shiftsOnce : ShiftsOnce .lsr lsrResult := fun _ _ =>
  ⟨zNof_putShift _ _, bitsKept_putShift _ _, nofun,
    fun _ => ⟨toNat_lsrResult_value _ _, getLsbD_putShift_c _ _⟩, nofun, nofun⟩

/-- The shifted byte is even, so the carry that comes in as bit 0 does not overflow it (45_shift_rotate.md R232). -/
theorem toNat_rolResult_value (v : Byte) (carry : Bool) :
    (rolResult v carry).value.toNat = v.toNat * 2 % 256 + carry.toNat := by
  have hcarry := carry.toNat_le
  exact (BitVec.toNat_ofNat _ 8).trans (Nat.mod_eq_of_lt (by omega))

theorem rolResult_shiftsOnce : ShiftsOnce .rol rolResult := fun _ _ =>
  ⟨zNof_putShift _ _, bitsKept_putShift _ _, nofun, nofun,
    fun _ => ⟨toNat_rolResult_value _ _, getLsbD_putShift_c _ _⟩, nofun⟩

/-- The shifted byte is below 128, so the carry that comes in as bit 7 does not overflow it (45_shift_rotate.md R233). -/
theorem toNat_rorResult_value (v : Byte) (carry : Bool) :
    (rorResult v carry).value.toNat = v.toNat / 2 + 128 * carry.toNat := by
  have hcarry := carry.toNat_le
  exact (BitVec.toNat_ofNat _ 8).trans (Nat.mod_eq_of_lt (by omega))

theorem rorResult_shiftsOnce : ShiftsOnce .ror rorResult := fun _ _ =>
  ⟨zNof_putShift _ _, bitsKept_putShift _ _, nofun, nofun, nofun,
    fun _ => ⟨toNat_rorResult_value _ _, getLsbD_putShift_c _ _⟩⟩

/-- A shift or rotate of A changes A and P by it and nothing else. -/
theorem shiftAccumulator_shifts {mn : Mnemonic} {compute : Byte → Bool → ShiftResult} (hshift : ShiftsOnce mn compute)
    (s : State) :
    ∃ t, shiftAccumulator compute s = .next t ∧ t = { s with a := t.a, p := t.p } ∧ ShiftedOnce mn s.a s.p t.a t.p :=
  ⟨_, shiftAccumulator_eq compute s, rfl, hshift s.a s.p⟩

/-- A shift or rotate of memory changes the byte at its address and P by it and nothing else but PC. -/
theorem shiftMemory_shifts {mn : Mnemonic} {compute : Byte → Bool → ShiftResult} {o : Operand} {s : State} {ea : Word}
    (hshift : ShiftsOnce mn compute) (hs : s.mem.wf = true) (hea : resolve o s = .ok ea) :
    ∃ t, shiftMemory compute o s = .next t ∧
      t = { s with mem := t.mem, p := t.p, pc := s.pc + BitVec.ofNat 16 o.mode.operandLen } ∧
      BytesKept [ea] s t ∧ ShiftedOnce mn (s.read8 ea) s.p (t.read8 ea) t.p := by
  let r := compute (s.read8 ea) (getFlag .c s.p)
  have hread : (s.write8 ea r.value).read8 ea = r.value := by rw [State.read8_write8 hs, if_pos rfl]
  have hkept : BytesKept [ea] s (s.write8 ea r.value) := (write8_writesAt s ea _).bytesKept hs
  have hshifted : ShiftedOnce mn (s.read8 ea) s.p ((s.write8 ea r.value).read8 ea) (putShift r s.p) := by
    rw [hread]
    exact hshift (s.read8 ea) s.p
  exact ⟨_, shiftMemory_eq hea compute, rfl, hkept, hshifted⟩

end Sys2Proof.Machine
end

section
/-! CLAIMS. The statement of 45_shift_rotate.md: the shifts and rotates of A and of memory. -/

namespace Sys2Proof.Proofs

open Sys2Proof.Machine Sys2Proof.Safety

/-- ASL, LSR, ROL and ROR are the shared shift, of A in mode ACC and of memory in the others, each with its own result. -/
theorem exec_eq_shift {i : Instr} (h : i.mnemonic ∈ [.asl, .lsr, .rol, .ror]) (s : State) :
    ∃ compute : Byte → Bool → ShiftResult, ShiftsOnce i.mnemonic compute ∧
      ((i.mode = .acc ∧ exec i s = shiftAccumulator compute s) ∨
       (i.mode ≠ .acc ∧ exec i s = shiftMemory compute i.operand s ∧ ∃ ea, resolve i.operand s = .ok ea)) := by
  simp only [List.mem_cons, List.not_mem_nil, or_false] at h
  rcases h with h | h | h | h
  · exact ⟨_, h ▸ aslResult_shiftsOnce, exec_asl h s⟩
  · exact ⟨_, h ▸ lsrResult_shiftsOnce, exec_lsr h s⟩
  · exact ⟨_, h ▸ rolResult_shiftsOnce, exec_rol h s⟩
  · exact ⟨_, h ▸ rorResult_shiftsOnce, exec_ror h s⟩

/-- Settles O43: by the mode an instruction is the shared shift of A or of memory, and its mnemonic names the result. -/
theorem shiftsAndRotates : Obligations.ShiftsAndRotates := by
  refine ⟨hasEncodings_of_perm (by decide), hasEncodings_of_perm (by decide), hasEncodings_of_perm (by decide),
    hasEncodings_of_perm (by decide), fun i s hi => ?_⟩
  obtain ⟨compute, hshift, ⟨hacc, hexec⟩ | ⟨hne, hexec, ea, hea⟩⟩ := exec_eq_shift hi s
  · refine ⟨fun _ => ?_, fun hne => absurd hacc hne⟩
    rw [hexec]
    exact shiftAccumulator_shifts hshift s
  · refine ⟨fun hacc => absurd hacc hne, fun _ hs => ⟨ea, ?_⟩⟩
    obtain ⟨t, ht, hframe, hkept, hshifted⟩ := shiftMemory_shifts hshift hs hea
    exact ⟨t, hea, hexec.trans ht, hframe, hkept, hshifted⟩

end Sys2Proof.Proofs
end

section
/-! SUPPORT. What JMP, JSR and a branch on a clear flag answer (46_control_transfer.md R240, R241, R243). -/

namespace Sys2Proof.Machine

theorem exec_jmpAbs (s : State) (target : Word) : exec (.jmpAbs target) s = .next (s.setPc target) :=
  jump_eq (o := .abs target) rfl

theorem exec_jmpInd (s : State) (ptr : Word) : exec (.jmpInd ptr) s = .next (s.setPc (s.jmpPointer ptr)) :=
  jump_eq (o := .ind ptr) rfl

theorem exec_jsr (s : State) (target : Word) :
    exec (.jsr target) s = .next ((s.push16 (s.pc + 1#16)).setPc target) :=
  jumpSubroutine_eq (o := .abs target) rfl

/-- A branch on a clear flag goes on to the next instruction where the flag is set. -/
theorem branch_onClear_eq (f : Flag) (off8 : Byte) (s : State) :
    branch f false (.rel off8) s = .next
      (s.setPc (if getFlag f s.p then s.pc + 1#16 else s.pc + 1#16 + sext16 off8)) := by
  rw [branch_eq]
  cases getFlag f s.p <;> rfl

end Sys2Proof.Machine
end

section
/-! CLAIMS. The statements of 46_control_transfer.md: subroutines, branches and jumps. -/

namespace Sys2Proof.Proofs

open Sys2Proof.Machine Sys2Proof.Safety

/-! ## Subroutines -/

/-- Settles O45: JSR is the push of the address of its last byte, and then the jump. -/
theorem jsrPushesReturnAddress : Obligations.JsrPushesReturnAddress := by
  refine ⟨hasEncodings_of_perm (by decide), fun s target hs => ?_⟩
  obtain ⟨hpush, hhigh, hlow, hkept, -, -⟩ := push16_highByteFirst_undone_by_pull16 hs (s.pc + 1#16)
  exact ⟨_, exec_jsr s target, congrArg (State.setPc · target) hpush, hhigh, hlow, hkept⟩

theorem exec_rts (s : State) : exec .rts s = .next { s with sp := s.sp + 2#8, pc := s.pulled16 + 1#16 } := by
  obtain ⟨-, hpop⟩ := pull16_lowByteFirst s
  rw [exec, execRts, runUnresolved_eq, finish_jump, hpop]

/-- Settles O46: the word RTS pulls has its low byte in the first slot above SP. -/
theorem rtsGoesPastPulledAddress : Obligations.RtsGoesPastPulledAddress := by
  refine ⟨hasEncodings_of_perm (by decide), fun s => ⟨_, exec_rts s, rfl, ?_⟩⟩
  obtain ⟨hword, -⟩ := pull16_lowByteFirst s
  rw [BitVec.toNat_add, hword, toNat_mkWord, Nat.add_comm (256 * _)]
  rfl

/-- RTS goes past the word last pushed, wherever PC stood, and undoes the move of SP. -/
theorem exec_rts_push16 {s : State} (hs : s.mem.wf = true) (w pc : Word) :
    exec .rts ((s.push16 w).setPc pc) = .next { s with pc := w + 1#16, mem := (s.push16 w).mem } := by
  obtain ⟨hpush, -, -, -, hpull, -⟩ := push16_highByteFirst_undone_by_pull16 hs w
  have hsp : (s.push16 w).sp + 2#8 = s.sp := (congrArg (State.sp · + 2#8) hpush).trans (BitVec.sub_add_cancel _ _)
  have hpc : ((s.push16 w).setPc pc).pulled16 + 1#16 = w + 1#16 := congrArg (· + 1#16) hpull
  rw [exec_rts]
  exact congrArg Host.Outcome.next (State.ext_fields rfl rfl rfl hsp rfl hpc rfl rfl rfl rfl rfl rfl rfl)

/-- Settles O47: RTS pulls the address of JSR's last byte, and the byte after it is two past JSR's opcode byte. -/
theorem rtsReturnsAfterJsr : Obligations.RtsReturnsAfterJsr := by
  intro s target hs
  have hpc : s.pc + 1#16 + 1#16 = s.pc + 2#16 := BitVec.add_assoc _ _ _
  refine ⟨_, _, exec_jsr s target, exec_rts_push16 hs (s.pc + 1#16) (target + 1#16), ?_⟩
  rw [hpc]
  rfl

/-! ## Branches and jumps -/

/-- Settles O48: each of the eight is the shared branch, on its flag set or on its flag clear. -/
theorem branchesFollowTheirFlag : Obligations.BranchesFollowTheirFlag := by
  refine ⟨hasEncodings_of_perm (by decide), hasEncodings_of_perm (by decide), hasEncodings_of_perm (by decide),
    hasEncodings_of_perm (by decide), hasEncodings_of_perm (by decide), hasEncodings_of_perm (by decide),
    hasEncodings_of_perm (by decide), hasEncodings_of_perm (by decide),
    fun s off8 => ⟨?bpl, ?bmi, ?bvc, ?bvs, ?bcc, ?bcs, ?bne, ?beq⟩⟩
  case bpl => exact branch_onClear_eq .n off8 s
  case bmi => exact branch_eq .n true off8 s
  case bvc => exact branch_onClear_eq .v off8 s
  case bvs => exact branch_eq .v true off8 s
  case bcc => exact branch_onClear_eq .c off8 s
  case bcs => exact branch_eq .c true off8 s
  case bne => exact branch_onClear_eq .z off8 s
  case beq => exact branch_eq .z true off8 s

/-- Settles O44: both forms are the shared jump, to an address that the resolver always has. -/
theorem jmpTakesItsTarget : Obligations.JmpTakesItsTarget :=
  ⟨hasEncodings_of_perm (by decide), fun s target ptr => ⟨exec_jmpAbs s target, exec_jmpInd s ptr⟩⟩

end Sys2Proof.Proofs
end

section
/-! SUPPORT. What each stack instruction and RTI answers (47_stack_flags_system.md R260 to R263, R272), when a pulled status byte
is the one pushed, and when an asserted IRQ is pending (60_exceptions.md R310). -/

namespace Sys2Proof.Machine

open Sys2Proof.Safety

variable {s : State}

/-! ## The next states -/

theorem exec_pha (s : State) : exec .pha s = .next (s.push s.a) :=
  runUnresolved_next_eq (handler := fun s => s.push s.a) rfl

theorem exec_php (s : State) : exec .php s = .next (s.push (pushedByPhp s.p)) :=
  runUnresolved_next_eq (handler := fun s => s.push (pushedByPhp s.p)) rfl

theorem exec_pla (s : State) : exec .pla s = .next ((s.afterPull.setA s.pulled).setZN s.pulled) :=
  runUnresolved_next_eq (handler := fun s => (s.afterPull.setA s.pulled).setZN s.pulled) rfl

theorem exec_plp (s : State) : exec .plp s = .next (s.afterPull.setP (pulledStatus s.pulled s.p)) :=
  runUnresolved_next_eq (handler := fun s => s.afterPull.setP (pulledStatus s.pulled s.p)) rfl

theorem exec_rti (s : State) :
    exec .rti s = .next { s with
      sp := s.sp + 3#8
      p := pulledStatus s.pulled s.p
      pc := mkWord (s.read8 (stackAddr (s.sp + 3#8))) (s.read8 (stackAddr (s.sp + 2#8))) } := by
  have htwo : s.sp + 2#8 = s.sp + 1#8 + 1#8 := by bv_omega
  have hthree : s.sp + 3#8 = s.sp + 1#8 + 1#8 + 1#8 := by bv_omega
  rw [exec, execRti, runUnresolved_eq, State.returnFromInterrupt_eq, finish_jump, htwo, hthree]
  rfl

/-! ## The pulled status byte -/

/-- A pull into status `q` gives `p` where bits 4 and 5 of `q` and the other bits of the pulled byte are those of `p`. -/
theorem pulledStatus_eq {v q p : Byte} (hkept : ∀ k, k = 4 ∨ k = 5 → q.getLsbD k = p.getLsbD k)
    (hpulled : ∀ k, ¬(k = 4 ∨ k = 5) → v.getLsbD k = p.getLsbD k) : pulledStatus v q = p := by
  refine byte_ext fun k _ => ?_
  rw [getLsbD_pulledStatus]
  split_ifs with hk
  · exact hkept k hk
  · exact hpulled k hk

/-- PHP differs from P in bits 4 and 5 alone, which PLP does not load. -/
theorem pulledStatus_pushedByPhp {p q : Byte} (hb : q.getLsbD 4 = p.getLsbD 4) (hu : q.getLsbD 5 = p.getLsbD 5) :
    pulledStatus (pushedByPhp p) q = p := by
  refine pulledStatus_eq ?_ fun k hk => ?_
  · rintro k (rfl | rfl)
    · exact hb
    · exact hu
  · rw [getLsbD_pushedByPhp, decide_eq_false hk, Bool.false_or]

/-- An interrupt entry pushes P but for bits 4 and 5 and then sets I, which RTI loads (60_exceptions.md R311). -/
theorem pulledStatus_pushedByInterrupt (p : Byte) : pulledStatus (pushedByInterrupt p) (putFlag .i true p) = p := by
  refine pulledStatus_eq ?_ fun k hk => ?_
  · rintro k (rfl | rfl) <;> exact getLsbD_putFlag .i true p _
  · obtain ⟨hb, hu⟩ := not_or.1 hk
    rw [getLsbD_pushedByInterrupt, if_neg hb, decide_eq_false hu, Bool.false_or]

theorem getLsbD_pulledStatus_of_mem {k : Nat} (hk : k ∈ [0, 1, 2, 3, 6, 7]) (v p : Byte) :
    (pulledStatus v p).getLsbD k = v.getLsbD k := by
  have hne : ¬(k = 4 ∨ k = 5) := by
    rintro (rfl | rfl) <;> exact absurd hk (by decide)
  rw [getLsbD_pulledStatus, if_neg hne]

/-! ## The bytes of an interrupt entry -/

/-- What an entry pushed stands in the three slots above its SP: P, then PC low byte first (60_exceptions.md R311). -/
theorem State.read8_aboveSp_takeInterrupt (hs : s.mem.wf = true) (k : Interrupt) :
    (s.takeInterrupt k).pulled = pushedByInterrupt s.p ∧
    (s.takeInterrupt k).read8 (stackAddr ((s.takeInterrupt k).sp + 2#8)) = loByte s.pc ∧
    (s.takeInterrupt k).read8 (stackAddr ((s.takeInterrupt k).sp + 3#8)) = hiByte s.pc := by
  have hone : s.sp - 1#8 - 1#8 - 1#8 + 1#8 = s.sp - 1#8 - 1#8 := by bv_omega
  have htwo : s.sp - 1#8 - 1#8 - 1#8 + 2#8 = s.sp - 1#8 := by bv_omega
  have hthree : s.sp - 1#8 - 1#8 - 1#8 + 3#8 = s.sp := by bv_omega
  have hne : s.sp - 1#8 ≠ s.sp - 1#8 - 1#8 := by bv_omega
  have hne' : s.sp ≠ s.sp - 1#8 - 1#8 := by bv_omega
  have hne'' : s.sp ≠ s.sp - 1#8 := by bv_omega
  simp only [State.pulled, State.takeInterrupt_sp, hone, htwo, hthree, State.read8_takeInterrupt hs, stackAddr_inj, hne,
    hne', hne'', if_true, if_false, and_self]

/-! ## The interrupt check -/

/-- An asserted IRQ waits on bit I of P alone. -/
theorem interruptPending_of_irqAsserted (h : IrqAsserted s) {masked : Bool} (hi : s.p.getLsbD 2 = masked) :
    s.interruptPending = bif masked then none else some .irq := by
  obtain ⟨hprofile, hnmi, hirq⟩ := h
  have hflag : getFlag .i s.p = masked := hi
  rw [State.interruptPending, hprofile]
  cases masked <;> simp [hnmi, hirq, hflag]

/-- After a pull into P the pulled I decides. -/
theorem interruptPending_iff_of_pulledStatus {v p : Byte} (hp : s.p = pulledStatus v p) (h : IrqAsserted s) :
    s.interruptPending = some .irq ↔ v.getLsbD 2 = false := by
  have hi : s.p.getLsbD 2 = v.getLsbD 2 := by rw [hp, getLsbD_pulledStatus_of_mem (by decide)]
  rw [interruptPending_of_irqAsserted h hi]
  cases v.getLsbD 2 <;> decide

end Sys2Proof.Machine
end

section
/-! CLAIMS. The statements of 47_stack_flags_system.md: pushes and pulls, RTI, and the flag instructions. -/

namespace Sys2Proof.Proofs

open Sys2Proof.Machine Sys2Proof.Safety

/-! ## Pushes and pulls -/

/-- Settles O49: each is the push of one byte, and a push keeps every other byte of memory. -/
theorem phaAndPhpPushOneByte : Obligations.PhaAndPhpPushOneByte := by
  refine ⟨hasEncodings_of_perm (by decide), hasEncodings_of_perm (by decide), fun s hs => ⟨?pha, ?php⟩⟩
  case pha =>
    obtain ⟨hframe, hread, hkept, -, -⟩ := push_at_stackAddr_undone_by_pull hs s.a
    exact ⟨_, exec_pha s, hframe, hread, hkept⟩
  case php =>
    obtain ⟨hframe, hread, hkept, -, -⟩ := push_at_stackAddr_undone_by_pull hs (pushedByPhp s.p)
    exact ⟨_, exec_php s, hframe, hread, hkept⟩

/-- Settles O50: a pull moves SP alone; the byte then goes to A with Z and N from it, or to P but for bits 4 and 5. -/
theorem plaAndPlpPullOneByte : Obligations.PlaAndPlpPullOneByte := by
  refine ⟨hasEncodings_of_perm (by decide), hasEncodings_of_perm (by decide), fun s => ⟨?pla, ?plp⟩⟩
  case pla => exact ⟨_, exec_pla s, rfl, zNof_putZN _ _, bitsKept_putZN _ _⟩
  case plp =>
    exact ⟨_, exec_plp s, rfl, fun k hk => getLsbD_pulledStatus_of_mem hk _ _, bitsKept_pulledStatus _ _,
      fun hirq => interruptPending_iff_of_pulledStatus rfl hirq⟩

/-- Settles O51: the pull reads the pushed byte, in whatever state A, P and PC are, and undoes the move of SP. -/
theorem pullsUndoPushes : Obligations.PullsUndoPushes := by
  intro s a p pc hs
  have hsp : s.sp - 1#8 + 1#8 = s.sp := BitVec.sub_add_cancel _ _
  refine ⟨⟨_, _, exec_pha s, exec_pla _, State.pulled_push hs s.a, hsp⟩, fun hb hu => ⟨_, _, exec_php s, exec_plp _, ?_⟩⟩
  have hpulled : (s.push (pushedByPhp s.p)).pulled = pushedByPhp s.p := State.pulled_push hs _
  have hp : pulledStatus (s.push (pushedByPhp s.p)).pulled p = s.p := by
    rw [hpulled]
    exact pulledStatus_pushedByPhp hb hu
  exact State.ext_fields rfl rfl rfl hsp hp rfl rfl rfl rfl rfl rfl rfl rfl

/-! ## RTI -/

/-- Settles O54: RTI writes SP, P and PC alone, from the three bytes above SP. -/
theorem rtiRestoresStatusAndPc : Obligations.RtiRestoresStatusAndPc :=
  ⟨hasEncodings_of_perm (by decide), fun s =>
    ⟨_, exec_rti s, rfl, fun hirq => interruptPending_iff_of_pulledStatus rfl hirq⟩⟩

/-- Settles O55: RTI pulls the three bytes the entry pushed, and P and PC are made of them again. -/
theorem rtiUndoesInterruptEntry : Obligations.RtiUndoesInterruptEntry := by
  intro s k pc hs
  obtain ⟨hpulled, hlow, hhigh⟩ := State.read8_aboveSp_takeInterrupt hs k
  have hsp : (s.takeInterrupt k).sp + 3#8 = s.sp := by
    rw [State.takeInterrupt_sp]
    bv_omega
  have hp : pulledStatus (s.takeInterrupt k).pulled (s.takeInterrupt k).p = s.p := by
    rw [hpulled, State.takeInterrupt_p, pulledStatus_pushedByInterrupt]
  have hpc : mkWord ((s.takeInterrupt k).read8 (stackAddr ((s.takeInterrupt k).sp + 3#8)))
      ((s.takeInterrupt k).read8 (stackAddr ((s.takeInterrupt k).sp + 2#8))) = s.pc := by
    rw [hhigh, hlow, mkWord_hiByte_loByte]
  refine ⟨_, exec_rti _, ?_⟩
  exact State.ext_fields (s.takeInterrupt_a k) (s.takeInterrupt_x k) (s.takeInterrupt_y k) hsp hp hpc rfl
    (s.takeInterrupt_run k) (s.takeInterrupt_fault k) (s.takeInterrupt_irqLine k) rfl (s.takeInterrupt_stopReq k)
    (s.takeInterrupt_cfg k)

/-! ## Flag instructions -/

/-- Settles O52: each forces one flag, and an asserted IRQ is pending exactly if I is clear. -/
theorem flagInstructionsForceOneFlag : Obligations.FlagInstructionsForceOneFlag := by
  refine ⟨hasEncodings_of_perm (by decide), hasEncodings_of_perm (by decide), hasEncodings_of_perm (by decide),
    hasEncodings_of_perm (by decide), hasEncodings_of_perm (by decide), hasEncodings_of_perm (by decide),
    hasEncodings_of_perm (by decide),
    fun s => ⟨?clc, ?sec, ?cli, ?sei, ?cld, ?sed, ?clv, fun hirq => ⟨?pending, ?masked⟩⟩⟩
  case clc => exact forceFlag_eq .c false s
  case sec => exact forceFlag_eq .c true s
  case cli => exact forceFlag_eq .i false s
  case sei => exact forceFlag_eq .i true s
  case cld => exact forceFlag_eq .d false s
  case sed => exact forceFlag_eq .d true s
  case clv => exact forceFlag_eq .v false s
  case pending =>
    have hi : (s.p &&& 0xFB#8).getLsbD 2 = false := getLsbD_putFlag .i false s.p 2
    exact interruptPending_of_irqAsserted (s := { s with p := s.p &&& 0xFB#8 }) hirq hi
  case masked =>
    have hi : (s.p ||| 0x04#8).getLsbD 2 = true := getLsbD_putFlag .i true s.p 2
    exact interruptPending_of_irqAsserted (s := { s with p := s.p ||| 0x04#8 }) hirq hi

end Sys2Proof.Proofs
end

section
/-! SUPPORT. The interrupt check case by case and the whole effect of an interrupt entry (60_exceptions.md R310, R311), that
every instruction completes (R303), and that only the interrupt check reads the interrupt inputs. -/

namespace Sys2Proof.Machine

open Sys2Proof.Safety

variable {s : State}

/-! ## The interrupt check -/

theorem interruptPending_of_nmiPending (hfull : s.cfg.profile = .full) (hn : s.nmiPending = true) :
    s.interruptPending = some .nmi := by
  rw [State.interruptPending, hfull, hn]
  rfl

theorem interruptPending_eq_nmi_iff : s.interruptPending = some .nmi ↔ s.cfg.profile = .full ∧ s.nmiPending = true := by
  constructor
  · intro h
    obtain ⟨hfull, ⟨-, hn⟩ | ⟨hk, -⟩⟩ := interruptPending_cases h
    · exact ⟨hfull, hn⟩
    · cases hk
  · rintro ⟨hfull, hn⟩
    exact interruptPending_of_nmiPending hfull hn

theorem interruptPending_eq_irq_iff :
    s.interruptPending = some .irq ↔
      s.cfg.profile = .full ∧ s.nmiPending = false ∧ s.irqLine = true ∧ s.p.getLsbD 2 = false := by
  constructor
  · intro h
    obtain ⟨hfull, ⟨hk, -⟩ | ⟨-, hirq⟩⟩ := interruptPending_cases h
    · cases hk
    · exact ⟨hfull, hirq⟩
  · rintro ⟨hfull, hn, hline, hi⟩
    exact interruptPending_of_irqAsserted ⟨hfull, hn, hline⟩ hi

/-- Under FULL a latched NMI, or else an unmasked IRQ, is pending; after its entry no NMI is latched. -/
theorem exists_interruptPending (hfull : s.cfg.profile = .full)
    (h : s.nmiPending = true ∨ (s.irqLine = true ∧ s.p.getLsbD 2 = false)) :
    ∃ k, s.interruptPending = some k ∧ k.vector = (if s.nmiPending then 0xFFFA#16 else 0xFFFE#16) ∧
      k.latchAfter s.nmiPending = false := by
  cases hn : s.nmiPending with
  | true => exact ⟨.nmi, interruptPending_of_nmiPending hfull hn, rfl, rfl⟩
  | false =>
    obtain hn' | ⟨hline, hi⟩ := h
    · cases hn.symm.trans hn'
    · exact ⟨.irq, interruptPending_eq_irq_iff.2 ⟨hfull, hn, hline, hi⟩, rfl, rfl⟩

/-! ## The entry -/

theorem ne_stackAddr_of_le {a : Word} (h : 0x0200 ≤ a.toNat) (sp : Byte) : a ≠ stackAddr sp := by
  rintro rfl
  rw [toNat_stackAddr] at h
  have hsp := sp.isLt
  omega

/-- Outside the stack page an entry leaves memory as it is. -/
theorem State.read8_takeInterrupt_of_le (hs : s.mem.wf = true) (k : Interrupt) {a : Word} (h : 0x0200 ≤ a.toNat) :
    (s.takeInterrupt k).read8 a = s.read8 a := by
  rw [State.read8_takeInterrupt hs, if_neg (ne_stackAddr_of_le h _), if_neg (ne_stackAddr_of_le h _),
    if_neg (ne_stackAddr_of_le h _)]

/-- The vector lies outside the stack page, so the pushes do not reach it. -/
theorem State.takeInterrupt_pc (hs : s.mem.wf = true) (k : Interrupt) :
    (s.takeInterrupt k).pc = s.read16 k.vector := by
  have hlow : 0x0200 ≤ k.vector.toNat := by cases k <;> decide
  have hhigh : 0x0200 ≤ (k.vector + 1#16).toNat := by cases k <;> decide
  calc (s.takeInterrupt k).pc
      = (s.takeInterrupt k).read16 k.vector := by
        rw [State.read16_congr (State.takeInterrupt_mem s k), State.takeInterrupt_eq]
    _ = s.read16 k.vector := by
        rw [State.read16, State.read8_takeInterrupt_of_le hs k hhigh, State.read8_takeInterrupt_of_le hs k hlow,
          State.read16]

/-- The fields after an entry, apart from memory. -/
theorem State.takeInterrupt_fields (hs : s.mem.wf = true) (k : Interrupt) :
    s.takeInterrupt k = { s with
      sp := s.sp - 3#8
      p := s.p ||| 0x04#8
      pc := s.read16 k.vector
      nmiPending := k.latchAfter s.nmiPending
      mem := (s.takeInterrupt k).mem } := by
  have hthree : s.sp - 1#8 - 1#8 - 1#8 = s.sp - 3#8 := by bv_omega
  rw [← State.takeInterrupt_pc hs k, ← hthree, State.takeInterrupt_eq]
  rfl

/-- The three pushes of an entry: PC high byte first, then the status byte with B clear. -/
theorem takeInterrupt_pushes (hs : s.mem.wf = true) (k : Interrupt) :
    (s.takeInterrupt k).read8 (stackAddr s.sp) = hiByte s.pc ∧
    (s.takeInterrupt k).read8 (stackAddr (s.sp - 1#8)) = loByte s.pc ∧
    (s.takeInterrupt k).read8 (stackAddr (s.sp - 2#8)) = pushedByInterrupt s.p := by
  have hthree : s.sp - 1#8 - 1#8 - 1#8 + 3#8 = s.sp := by bv_omega
  have htwo : s.sp - 1#8 - 1#8 - 1#8 + 2#8 = s.sp - 1#8 := by bv_omega
  have hone : s.sp - 1#8 - 1#8 - 1#8 + 1#8 = s.sp - 2#8 := by bv_omega
  obtain ⟨hpulled, hlow, hhigh⟩ := State.read8_aboveSp_takeInterrupt hs k
  rw [State.takeInterrupt_sp, hthree] at hhigh
  rw [State.takeInterrupt_sp, htwo] at hlow
  rw [State.pulled, State.takeInterrupt_sp, hone] at hpulled
  exact ⟨hhigh, hlow, hpulled⟩

theorem takeInterrupt_writesAt (s : State) (k : Interrupt) :
    WritesAt [stackAddr s.sp, stackAddr (s.sp - 1#8), stackAddr (s.sp - 2#8)] s.mem (s.takeInterrupt k).mem := by
  have htwo : s.sp - 2#8 = s.sp - 1#8 - 1#8 := by bv_omega
  rw [htwo, State.takeInterrupt_mem]
  exact .cons _ (hiByte s.pc) (.cons _ (loByte s.pc) (push_writesAt (s.push16 s.pc) _))

/-! ## Completion -/

theorem step_of_interrupt {k : Interrupt} (hr : s.run = .running) (hs : s.stopReq = false)
    (hk : s.interruptPending = some k) : step s = .next (s.takeInterrupt k) := by
  rw [step, engineStep, hr, hs, hk]
  rfl

/-- Fetch, decoding and every instruction complete; a byte that does not decode leaves a state as well. -/
theorem runInstruction_completes (s : State) : ∃ t, runInstruction exec s = .next t := by
  cases hd : decode s.cfg.profile s.fetchBytes with
  | error e => exact ⟨_, runInstruction_of_error hd⟩
  | ok r =>
    obtain ⟨i, rest⟩ := r
    obtain ⟨t, ht, -⟩ := exec_within i s.afterFetch
    exact ⟨t, (runInstruction_of_decode hd).trans ht⟩

/-! ## The interrupt inputs -/

/-- An entry changes the NMI latch only by taking an NMI. -/
theorem nmiPending_takeInterrupt_cases {k : Interrupt} (hk : s.interruptPending = some k) :
    (s.takeInterrupt k).nmiPending = s.nmiPending ∨
      (s.nmiPending = true ∧ (s.takeInterrupt k).nmiPending = false ∧ s.cfg.profile = .full) := by
  rw [State.takeInterrupt_nmiPending]
  cases k with
  | irq => exact .inl rfl
  | nmi =>
    obtain ⟨hfull, hn⟩ := interruptPending_eq_nmi_iff.1 hk
    exact .inr ⟨hn, rfl, hfull⟩

/-- `s` with other interrupt inputs. -/
def State.withInputs (line pending : Bool) (s : State) : State := { s with irqLine := line, nmiPending := pending }

theorem branch_withInputs (f : Flag) (value : Bool) (off8 : Byte) (s : State) (line pending : Bool) :
    branch f value (.rel off8) (s.withInputs line pending) =
      mapNext (State.withInputs line pending) (branch f value (.rel off8) s) := by
  rw [branch_eq, branch_eq]
  rfl

/-- No instruction reads or writes an interrupt input: a branch tests P alone, and every other meaning carries the two fields
along. -/
theorem exec_withInputs (i : Instr) (s : State) (line pending : Bool) :
    exec i (s.withInputs line pending) = mapNext (State.withInputs line pending) (exec i s) := by
  unfold exec
  cases i with
  | bpl v | bmi v | bvc v | bvs v | bcc v | bcs v | bne v | beq v => exact branch_withInputs _ _ v s line pending
  | _ => rfl

/-- Neither the fetch nor the decoding reads an interrupt input either. -/
theorem runInstruction_withInputs (s : State) (line pending : Bool) :
    runInstruction exec (s.withInputs line pending) =
      mapNext (State.withInputs line pending) (runInstruction exec s) := by
  cases hd : decode s.cfg.profile s.fetchBytes with
  | error e =>
    rw [runInstruction_of_error hd, runInstruction_of_error (s := s.withInputs line pending) hd]
    rfl
  | ok r =>
    obtain ⟨i, rest⟩ := r
    rw [runInstruction_of_decode hd, runInstruction_of_decode (s := s.withInputs line pending) hd]
    exact exec_withInputs i s.afterFetch line pending

end Sys2Proof.Machine
end

section
/-! CLAIMS. The statements of 60_exceptions.md: the interrupt check, the interrupt entry, and that no other exception exists. -/

namespace Sys2Proof.Proofs

open Sys2Proof.Machine Sys2Proof.Safety

/-! ## Interrupts -/

/-- Settles O11: a clause each for NMI and for IRQ. -/
theorem interruptCheckHasItsPriority : Obligations.InterruptCheckHasItsPriority :=
  fun _ => ⟨interruptPending_eq_nmi_iff, interruptPending_eq_irq_iff⟩

/-- Settles O12: the step is the entry of the pending interrupt, whose three pushes do not reach the vector. -/
theorem pendingInterruptIsTaken : Obligations.PendingInterruptIsTaken := by
  intro s hrun hstop hfull hs hpending
  obtain ⟨k, hk, hvector, hlatch⟩ := exists_interruptPending hfull hpending
  obtain ⟨hhigh, hlow, hstatus⟩ := takeInterrupt_pushes hs k
  refine ⟨s.takeInterrupt k, step_of_interrupt hrun hstop hk, ?_, ?_, ?_, hstatus,
    (takeInterrupt_writesAt s k).bytesKept hs⟩
  · rw [← hvector, ← hlatch]
    exact State.takeInterrupt_fields hs k
  · exact (congrArg BitVec.toNat hhigh).trans (toNat_hiByte s.pc)
  · exact (congrArg BitVec.toNat hlow).trans (toNat_loByte s.pc)

/-- Settles O13, along the branches of a step: none of them reads an interrupt input once no interrupt can be pending. -/
theorem subsetStepIgnoresInterruptInputs : Obligations.SubsetStepIgnoresInterruptInputs := by
  intro s line pending hprofile
  change step (s.withInputs line pending) = mapNext (State.withInputs line pending) (step s)
  cases hrun : s.run with
  | halted => rw [step_of_halted hrun, step_of_halted (s := s.withInputs line pending) hrun, mapNext]
  | faulted => rw [step_of_faulted hrun, step_of_faulted (s := s.withInputs line pending) hrun, mapNext]
  | running =>
    cases hstop : s.stopReq with
    | true =>
      rw [step_of_stopReq hrun hstop, step_of_stopReq (s := s.withInputs line pending) hrun hstop]
      rfl
    | false =>
      rw [step_of_ready ⟨hrun, hstop, interruptPending_of_subset hprofile⟩,
        step_of_ready (s := s.withInputs line pending) ⟨hrun, hstop, interruptPending_of_subset hprofile⟩]
      exact runInstruction_withInputs s line pending

/-- Settles O17, along the four things a step can do: only the stop writes STOP_REQ, and only an entry writes an input. -/
theorem stepKeepsInputsAndParameters : Obligations.StepKeepsInputsAndParameters := by
  intro s t h
  obtain ⟨-, hcases⟩ := step_cases h
  obtain ⟨-, rfl⟩ | ⟨hstop, k, hk, rfl⟩ | ⟨hstop, -, i, -, -, hexec⟩ | ⟨hstop, -, -, -, rfl⟩ := hcases
  · exact ⟨rfl, rfl, rfl, .inl rfl⟩
  · refine ⟨s.takeInterrupt_cfg k, s.takeInterrupt_irqLine k, (s.takeInterrupt_stopReq k).trans hstop, ?_⟩
    exact (nmiPending_takeInterrupt_cases hk).imp_right fun ⟨hn, hn', hfull⟩ => ⟨hn, hn', hfull, hstop⟩
  · have hw := exec_changesOnly hexec
    exact ⟨hw.cfg, hw.irqLine, hw.stopReq.trans hstop, .inl hw.nmiPending⟩
  · exact ⟨rfl, rfl, hstop, .inl rfl⟩

/-! ## No other exception -/

/-- Settles O15: the stop, an interrupt entry and an instruction all answer a next state. -/
theorem everyRunningStepCompletes : Obligations.EveryRunningStepCompletes := by
  intro s hrun
  cases hstop : s.stopReq with
  | true => exact ⟨_, step_of_stopReq hrun hstop⟩
  | false =>
    cases hk : s.interruptPending with
    | some k => exact ⟨_, step_of_interrupt hrun hstop hk⟩
    | none =>
      rw [step_of_ready ⟨hrun, hstop, hk⟩]
      exact runInstruction_completes s

/-- Settles O24: no instruction's record of writes reaches the engine state but by the halt of BRK. -/
theorem instructionsKeepEngineState : Obligations.InstructionsKeepEngineState := by
  intro i s
  obtain ⟨t, ht, hw⟩ := exec_within i s
  exact ⟨t, ht, hw.fault, hw.irqLine, hw.nmiPending, hw.stopReq, hw.cfg, run_of_exec ht⟩

end Sys2Proof.Proofs
end

section
/-! SUPPORT. What a byte image written to memory reads as, and the host's load and run (70_reset_and_hazards.md R344,
40_execution_engine.md R138). -/

namespace Sys2Proof.Machine

variable {s t : State}

/-- A byte after an image is written, with addresses that wrap at the end of memory: the image's own at its distance from the
start, else as before. -/
theorem State.read8_writeBytes {bytes : List Byte} (hs : s.mem.wf = true) (hlen : bytes.length ≤ 65536) (a a' : Word) :
    (s.writeBytes a bytes).read8 a' =
      if (a' - a).toNat < bytes.length then bytes.getD (a' - a).toNat 0x00#8 else s.read8 a' := by
  induction bytes generalizing s a with
  | nil => rfl
  | cons b rest ih =>
    rw [List.length_cons] at hlen
    rw [State.writeBytes, ih (State.write8_wf hs a b) (by omega), State.read8_write8 hs, List.length_cons]
    by_cases ha : a' = a
    · subst ha
      have hlast : (a' - (a' + 1#16)).toNat = 65535 := by bv_omega
      have hfirst : (a' - a').toNat = 0 := by rw [BitVec.sub_self, BitVec.toNat_zero]
      rw [hlast, hfirst, if_neg (by omega), if_pos rfl, if_pos (Nat.succ_pos _), List.getD_cons_zero]
    · have hsucc : (a' - a).toNat = (a' - (a + 1#16)).toNat + 1 := by bv_omega
      rw [hsucc, if_neg ha, List.getD_cons_succ]
      exact if_congr Nat.add_lt_add_iff_right.symm rfl rfl

/-- The bytes of an image at the load base, which ends at 0xFFFF or before. -/
theorem State.read8_writeBytes_loadBase {image : List Byte} (hs : s.mem.wf = true) (hlen : image.length ≤ 0x8000)
    (a : Word) :
    (s.writeBytes Config.loadBase image).read8 a =
      if 0x8000 ≤ a.toNat ∧ a.toNat - 0x8000 < image.length then image.getD (a.toNat - 0x8000) 0x00#8 else s.read8 a := by
  rw [State.read8_writeBytes hs (by omega), Config.loadBase]
  by_cases hbase : 0x8000 ≤ a.toNat
  · have hdist : (a - 0x8000#16).toNat = a.toNat - 0x8000 := by bv_omega
    rw [hdist]
    exact if_congr (by simp only [hbase, true_and]) rfl rfl
  · have hdist : 0x8000 ≤ (a - 0x8000#16).toNat := by bv_omega
    rw [if_neg (by omega), if_neg (by omega)]

theorem hostLoad_of_le {image : List Byte} (h : image.length ≤ 0x8000) (s : State) :
    hostLoad image s =
      .next ((s.writeBytes Config.loadBase image).write16 Config.resetVector Config.loadBase) :=
  if_pos h

theorem hostLoad_of_gt {image : List Byte} (h : 0x8000 < image.length) (s : State) :
    hostLoad image s = .refused .imageTooLong :=
  if_neg (Nat.not_le.2 h)

/-- A load that is not refused changes memory alone. -/
theorem hostLoad_eq {image : List Byte} (h : hostLoad image s = .next t) : t = { s with mem := t.mem } := by
  rw [hostLoad] at h
  split_ifs at h
  cases h
  rw [State.write16_eq, State.writeBytes_eq]

theorem hostRun_of_not_running (h : s.run ≠ .running) (fuel : Nat) : hostRun fuel s = some s := by
  cases hr : s.run with
  | running => exact absurd hr h
  | halted =>
    unfold hostRun
    rw [hr]
  | faulted =>
    unfold hostRun
    rw [hr]

end Sys2Proof.Machine
end

section
/-! CLAIMS. The statements of 70_reset_and_hazards.md: the host's reset, load and stop signal. -/

namespace Sys2Proof.Proofs

open Sys2Proof.Machine Sys2Proof.Safety

/-- Settles O9: a step in Running looks at STOP_REQ before everything else. -/
theorem stopSignalHaltsAtNextStep : Obligations.StopSignalHaltsAtNextStep :=
  fun s hrun => step_of_stopReq (s := hostStop s) hrun rfl

/-- Settles O56: outside Running neither a step nor `run` moves the core, and of the host's operations `reset` alone writes
RUN. -/
theorem hostResetRestartsTheCore : Obligations.HostResetRestartsTheCore := by
  intro s
  refine ⟨rfl, fun hne => ⟨fun t ht => hne (step_cases ht).1, hostRun_of_not_running hne⟩, fun image t ht => ?load,
    fun addr b => s.write8_run addr b, fun addr w => s.write16_run addr w, rfl, fun _ => rfl, rfl⟩
  case load => rw [hostLoad_eq ht]

/-- Settles O58: the vector is written last, over an image that ends at 0xFFFF or before. -/
theorem loadPlacesImageAndVector : Obligations.LoadPlacesImageAndVector := by
  intro image s hs
  refine ⟨fun hlong => hostLoad_of_gt hlong s, fun hshort => ⟨_, hostLoad_of_le hshort s, ?_, ?_, ?_, ?_⟩⟩
  · exact hostLoad_eq (hostLoad_of_le hshort s)
  · exact State.read8_write16_low (State.writeBytes_wf hs _ _) _ _
  · exact State.read8_write16_high (State.writeBytes_wf hs _ _) _ _
  · intro a hlow hhigh
    have hvector : ((s.writeBytes Config.loadBase image).write16 Config.resetVector Config.loadBase).read8 a =
        (s.writeBytes Config.loadBase image).read8 a := by
      rw [State.read8_write16 (State.writeBytes_wf hs _ _)]
      exact (if_neg hhigh).trans (if_neg hlow)
    exact hvector.trans (State.read8_writeBytes_loadBase hs hshort a)

end Sys2Proof.Proofs
end
